-- ==== Sys2Proof/Word.lean ====
section
/-! DEFINITION. The words of MACFV (00_scope.md R9, R10): bytes of the wire formats, 16-bit offset registers, 32-bit
registers and bus data, 11-bit block offsets. Bit 0 is the least significant bit everywhere. -/

namespace Sys2Proof

/-- A byte of the wire formats and of IBUF (R11). -/
abbrev Byte := BitVec 8

/-- An offset register's field, and TEMP_TENTHS (R9). -/
abbrev Half := BitVec 16

/-- A register, the command word, or the 32 data bits of the host bus (R9). -/
abbrev Word := BitVec 32

/-- A byte offset within the block, 0x000 to 0x7FF (20_memory.md R60). -/
abbrev Offset := BitVec 11

end Sys2Proof
end

