-- ==== Sys2Proof/Syntax.lean ====
section
/-! DEFINITION. The instructions of MACFV, one constructor per row of spec/opcode_table.json, and the host's bus
accesses and script lines (30_encoding.md R120, R121). -/

namespace Sys2Proof

/-- The rows of spec/opcode_table.json. The first eight are the commands of CMD.OP (30_encoding.md R91). The next seven
are DECODE's dispatch rows by frame type (44_payload_decode.md R272), the last five GetInfoResponse's rows by tag (R285):
parts of DECODE, each with a meaning of its own (notes/assumptions/7.md). -/
inductive Instr where
  /-- OP 0 (40_command_interface.md R148). -/
  | nop
  /-- OP 1 (42_frame_parser.md R190). -/
  | scan
  /-- OP 2 (42_frame_parser.md R195). -/
  | parse
  /-- OP 3 (44_payload_decode.md R270). -/
  | decode
  /-- OP 4 (40_command_interface.md R149). -/
  | reserved4
  /-- OP 5 (R149). -/
  | reserved5
  /-- OP 6 (R149). -/
  | reserved6
  /-- OP 7 (R149). -/
  | reserved7
  /-- Frame type 0x41 (R275). -/
  | decodeSetRequest
  /-- Frame type 0x42 (R278). -/
  | decodeGetInfoRequest
  /-- Frame type 0x5A (R280). -/
  | decodeConnectRequest
  /-- Frame type 0x61 (R282). -/
  | decodeSetResponse
  /-- Frame type 0x62 (R285). -/
  | decodeGetInfoResponse
  /-- Frame type 0x7A (R283). -/
  | decodeConnectResponse
  /-- Any other frame-type byte, its operand (R284). -/
  | decodeUnknown (ft : Byte)
  /-- Tag 0x02 (R286). -/
  | girSettings
  /-- Tag 0x03 (R287). -/
  | girRoomTemperature
  /-- Tag 0x05 (R288). -/
  | girTimers
  /-- Tag 0x06 (R289). -/
  | girStatus
  /-- Any other tag, its operand (R290). -/
  | girUnknown (tag : Byte)
deriving DecidableEq, Repr

/-- The three formats of the opcode table's rows: the CMD word, the frame-type byte, the InfoType tag. -/
inductive Format where
  | cmd
  | frame
  | gir
deriving DecidableEq, Repr

/-- The size of a host access, 1, 2 or 4 bytes (20_memory.md R60). -/
inductive AccessSize where
  | one
  | two
  | four
deriving DecidableEq, Repr

/-- One coming event of the machine's surroundings, or one turn of its engine: what the host port carries (20_memory.md
R60), the reset input (70_reset_and_hazards.md R440), and the engine's turns, in the order in which they happen
(60_exceptions.md R407; notes/assumptions/1.md). -/
inductive Input where
  /-- A host read of `n` bytes at `a` (20_memory.md R66). -/
  | read (a : Offset) (n : AccessSize)
  /-- A host write of `n` bytes of `v` at `a` (R67). -/
  | write (a : Offset) (n : AccessSize) (v : Word)
  /-- The engine's turn: it completes the pending command if there is one (40_command_interface.md R143). -/
  | engine
  /-- `rst` is asserted (70_reset_and_hazards.md R440). -/
  | reset
  /-- The WAIT pseudo-operation (30_encoding.md R121). -/
  | wait
  /-- The EXPECT pseudo-operation (R121): read the register at `a`; bits `hi` down to `lo` should be `v`. -/
  | expect (a : Offset) (hi lo : Nat) (v : Nat)
deriving DecidableEq, Repr

/-- A line of a host script (30_encoding.md R120, R121). -/
inductive ScriptLine where
  | w32 (a : Offset) (v : Word)
  | w16 (a : Offset) (v : Half)
  | w8 (a : Offset) (v : Byte)
  | r32 (a : Offset)
  /-- `LOAD i, b0 b1 …`: byte writes from IBUF index `i` up. -/
  | load (i : Nat) (bytes : List Byte)
  /-- `WIN base, len`. -/
  | win (base len : Word)
  | wait
  /-- `RUN op`: write CMD, then WAIT. -/
  | run (op : Word)
  /-- `EXPECT reg, v`. -/
  | expect (a : Offset) (v : Word)
  /-- `EXPECT reg.F, v`, the field F being bits `hi` down to `lo`. -/
  | expectField (a : Offset) (hi lo : Nat) (v : Nat)
deriving DecidableEq, Repr

end Sys2Proof
end

