-- ==== Sys2Proof/WellFormed.lean ====
section
/-! DEFINITION. Which terms are instructions and which scripts the host may run: the two open rows take only bytes that
no other row lists, and a script's fields and first WAIT are in order. -/

namespace Sys2Proof

/-- The frame types with a row of their own (30_encoding.md R97). -/
def listedFrameTypes : List Byte := [0x41#8, 0x42#8, 0x5A#8, 0x61#8, 0x62#8, 0x7A#8]

/-- The tags with a GetInfoResponse row of their own (44_payload_decode.md R285). -/
def listedTags : List Byte := [0x02#8, 0x03#8, 0x05#8, 0x06#8]

/-- An instruction is well-formed when its operand, if it has one, is a byte its row's encoding admits: a frame type
outside the table (R284), a tag outside the table (R290). -/
def Instr.wellFormed (i : Instr) : Bool :=
  match i with
  | .decodeUnknown ft => !listedFrameTypes.contains ft
  | .girUnknown tag => !listedTags.contains tag
  | .nop | .scan | .parse | .decode | .reserved4 | .reserved5 | .reserved6 | .reserved7
  | .decodeSetRequest | .decodeGetInfoRequest | .decodeConnectRequest | .decodeSetResponse
  | .decodeGetInfoResponse | .decodeConnectResponse
  | .girSettings | .girRoomTemperature | .girTimers | .girStatus => true

/-- A script line is well-formed when a field it expects is a field of a 32-bit register, and when the bytes it loads lie
in the IBUF address window (30_encoding.md R120, R121; 20_memory.md R61). -/
def ScriptLine.wellFormed (l : ScriptLine) : Bool :=
  match l with
  | .expectField _ hi lo _ => decide (lo ≤ hi) && decide (hi < 32)
  | .load i bs => decide (i + bs.length ≤ 1024)
  | .w32 .. | .w16 .. | .w8 .. | .r32 _ | .win .. | .wait | .run _ | .expect .. => true

/-- Whether a line starts a command: RUN, or a 4-byte write to CMD. -/
def ScriptLine.startsCommand (l : ScriptLine) : Bool :=
  match l with
  | .run _ => true
  | .w32 a _ => a == 0x000#11
  | .w16 .. | .w8 .. | .r32 _ | .load .. | .win .. | .wait | .expect .. | .expectField .. => false

/-- A script run from reset is well-formed when its lines are, and when no WAIT stands before the first command
(93_implementation_defined.md U17: such a WAIT never ends). -/
def scriptWellFormed : List ScriptLine → Bool
  | [] => true
  | l :: ls =>
    l.wellFormed && (if l.startsCommand then ls.all ScriptLine.wellFormed else l != .wait && scriptWellFormed ls)

end Sys2Proof
end

