-- ==== Sys2Proof/Decode.lean ====
section
/-! DEFINITION. From words to instructions and back (30_encoding.md R90, R91, R97, R98; 44_payload_decode.md R272, R285).
Decoding is total: every 32-bit command word, every frame-type byte and every tag selects exactly one row. -/

namespace Sys2Proof

/-- Why bytes are no instruction: a format takes bytes of one number only. -/
inductive Reject where
  /-- `n` bytes were given where the format takes another number. A command word is one 4-byte write to CMD
  (30_encoding.md R90: no other width reaches CMD); a frame type and a tag are one byte each. -/
  | wrongWidth (f : Format) (n : Nat)
deriving DecidableEq, Repr

/-- The opcode map of CMD.OP (30_encoding.md R91). -/
def decodeOp (op : BitVec 3) : Instr :=
  match op with
  | 0#3 => .nop
  | 1#3 => .scan
  | 2#3 => .parse
  | 3#3 => .decode
  | 4#3 => .reserved4
  | 5#3 => .reserved5
  | 6#3 => .reserved6
  | _   => .reserved7

/-- The OP field of a command word, bits 2:0; bits 31:3 are ignored (30_encoding.md R90). -/
def commandOp (w : Word) : BitVec 3 := w.extractLsb' 0 3

/-- The command a word written to CMD selects (R90, R91). -/
def decodeCommand (w : Word) : Instr := decodeOp (commandOp w)

/-- DECODE's row for a frame-type byte (30_encoding.md R97, 44_payload_decode.md R272). -/
def decodeFrameType (b : Byte) : Instr :=
  if b = 0x41#8 then .decodeSetRequest
  else if b = 0x42#8 then .decodeGetInfoRequest
  else if b = 0x5A#8 then .decodeConnectRequest
  else if b = 0x61#8 then .decodeSetResponse
  else if b = 0x62#8 then .decodeGetInfoResponse
  else if b = 0x7A#8 then .decodeConnectResponse
  else .decodeUnknown b

/-- GetInfoResponse's row for a tag (44_payload_decode.md R285, R290). -/
def decodeTag (b : Byte) : Instr :=
  if b = 0x02#8 then .girSettings
  else if b = 0x03#8 then .girRoomTemperature
  else if b = 0x05#8 then .girTimers
  else if b = 0x06#8 then .girStatus
  else .girUnknown b

/-- Four bytes of a 4-byte host access as a word, the lowest offset in bits 7:0 (20_memory.md R65). -/
def wordOfBytes (b0 b1 b2 b3 : Byte) : Word := b3 ++ b2 ++ b1 ++ b0

/-- Byte `k` of a word in little-endian lanes (20_memory.md R65). -/
def lane (w : Word) (k : Nat) : Byte := w.extractLsb' (8 * k) 8

/-- The instruction that bytes of a format stand for, or why there is none. -/
def decode (f : Format) (bytes : List Byte) : Except Reject Instr :=
  match f, bytes with
  | .cmd, [b0, b1, b2, b3] => .ok (decodeCommand (wordOfBytes b0 b1 b2 b3))
  | .frame, [b] => .ok (decodeFrameType b)
  | .gir, [b] => .ok (decodeTag b)
  | f, bs => .error (.wrongWidth f bs.length)

/-- The format of an instruction's row. -/
def formatOf (i : Instr) : Format :=
  match i with
  | .nop | .scan | .parse | .decode | .reserved4 | .reserved5 | .reserved6 | .reserved7 => .cmd
  | .decodeSetRequest | .decodeGetInfoRequest | .decodeConnectRequest | .decodeSetResponse
  | .decodeGetInfoResponse | .decodeConnectResponse | .decodeUnknown _ => .frame
  | .girSettings | .girRoomTemperature | .girTimers | .girStatus | .girUnknown _ => .gir

/-- The bytes of a command word whose OP is `op` and whose ignored bits are 0. -/
def encodeOp (op : Byte) : List Byte := [op, 0x00#8, 0x00#8, 0x00#8]

/-- The bytes of an instruction, in the order in which the hardware stores them: a command word in little-endian lanes,
a frame-type byte, a tag (30_encoding.md R91, R97, R98). -/
def encode (i : Instr) : List Byte :=
  match i with
  | .nop => encodeOp 0x00#8
  | .scan => encodeOp 0x01#8
  | .parse => encodeOp 0x02#8
  | .decode => encodeOp 0x03#8
  | .reserved4 => encodeOp 0x04#8
  | .reserved5 => encodeOp 0x05#8
  | .reserved6 => encodeOp 0x06#8
  | .reserved7 => encodeOp 0x07#8
  | .decodeSetRequest => [0x41#8]
  | .decodeGetInfoRequest => [0x42#8]
  | .decodeConnectRequest => [0x5A#8]
  | .decodeSetResponse => [0x61#8]
  | .decodeGetInfoResponse => [0x62#8]
  | .decodeConnectResponse => [0x7A#8]
  | .decodeUnknown ft => [ft]
  | .girSettings => [0x02#8]
  | .girRoomTemperature => [0x03#8]
  | .girTimers => [0x05#8]
  | .girStatus => [0x06#8]
  | .girUnknown tag => [tag]

/-- The format in which a one-byte table word is read. No command word has one byte (30_encoding.md R90), but the number
alone does not say which of the two one-byte formats is meant; DESIGN CHOICE (notes/assumptions/8.md): a byte that a GIR
row or a FRAME row lists is that row's; any other byte from 1 to 15 is a tag, and the rest are frame types. -/
def formatOfTableByte (b : Byte) : Format :=
  if b ∈ listedTags then .gir
  else if b ∈ listedFrameTypes then .frame
  else if 0x01#8 ≤ b ∧ b < 0x10#8 then .gir
  else .frame

/-- The instruction of the opcode-table word `w` of `nbits` bits: more than 8 bits are a command word, whose bits above
`nbits` are 0; 8 bits are read by `formatOfTableByte`. -/
def decodeTableWord (nbits w : Nat) : Option Instr :=
  if nbits = 0 ∨ 32 < nbits then none
  else
    let v : Word := BitVec.ofNat 32 w
    let f := if nbits ≤ 8 then formatOfTableByte (lane v 0) else Format.cmd
    let bytes := match f with
      | .cmd => [lane v 0, lane v 1, lane v 2, lane v 3]
      | _ => [lane v 0]
    match decode f bytes with
    | .ok i => some i
    | .error _ => none

end Sys2Proof
end

