-- ==== Sys2Proof/Config.lean ====
section
/-! DEFINITION. What a build of MACFV fixes (00_scope.md R6, R7), and the one value the spec leaves open. -/

namespace Sys2Proof.Config

/-- ENUM_TABLES (00_scope.md R7): for each enumeration, the bytes that are known variants (30_encoding.md R110 to R115). -/
structure EnumTables where
  power    : List Byte
  mode     : List Byte
  fan      : List Byte
  vane     : List Byte
  wideVane : List Byte
  isee     : List Byte
deriving DecidableEq, Repr

/-- The build parameters. A model takes them as arguments (R6, R7): they stand in the state, and no step changes them
(notes/assumptions/5.md). -/
structure Build where
  /-- BUF_CAP, the capacity of IBUF in bytes (R6). -/
  bufCap : Nat
  tables : EnumTables
deriving DecidableEq, Repr

/-- The entries the source's examples show are in every choice of ENUM_TABLES (43_payload_fields.md R233; the entries
marked fixed in 30_encoding.md R110 to R115). -/
abbrev EnumTables.wf (t : EnumTables) : Prop :=
  0x01#8 ∈ t.power ∧ 0x01#8 ∈ t.mode ∧ 0x08#8 ∈ t.mode ∧ 0x00#8 ∈ t.fan ∧ 0x07#8 ∈ t.vane ∧
    0x01#8 ∈ t.wideVane ∧ 0x03#8 ∈ t.wideVane ∧ 0x00#8 ∈ t.isee

/-- A build the spec allows: 261 ≤ BUF_CAP ≤ 1024 (R6), and the fixed table entries. -/
abbrev Build.wf (b : Build) : Prop :=
  261 ≤ b.bufCap ∧ b.bufCap ≤ 1024 ∧ b.tables.wf

/-- FREE VALUE. What a read of IBUF byte `index` gives when the byte has not been written since reset, at the read
numbered `draw` (20_memory.md R81, 70_reset_and_hazards.md R441, 93_implementation_defined.md U1: a free draw per read).
Nothing constrains it (notes/assumptions/3.md). -/
opaque unwrittenByte (draw index : Nat) : Byte

end Sys2Proof.Config
end

