-- ==== Sys2Proof/Machine/Tables.lean ====
section
/-! DEFINITION. The default build (00_scope.md R6, R7): BUF_CAP 512 and the default ENUM_TABLES of 30_encoding.md R110 to
R115. PRESUMED by the spec itself where an entry is not marked fixed there (notes/assumptions/6.md). -/

namespace Sys2Proof.Machine

/-- Off, On (30_encoding.md R110). -/
def defaultPower : List Byte := [0x00#8, 0x01#8]

/-- Heat, Dry, Cool, Fan, Auto (R111). -/
def defaultMode : List Byte := [0x01#8, 0x02#8, 0x03#8, 0x07#8, 0x08#8]

/-- Auto, Quiet, F1, F2, F3, F4 (R112). -/
def defaultFan : List Byte := [0x00#8, 0x01#8, 0x02#8, 0x03#8, 0x05#8, 0x06#8]

/-- Auto, V1 to V5, Swing (R113). -/
def defaultVane : List Byte := [0x00#8, 0x01#8, 0x02#8, 0x03#8, 0x04#8, 0x05#8, 0x07#8]

/-- LL, L, Center, R, RR, LR, Swing (R114). -/
def defaultWideVane : List Byte := [0x01#8, 0x02#8, 0x03#8, 0x04#8, 0x05#8, 0x08#8, 0x0C#8]

/-- Off, On (R115). -/
def defaultISee : List Byte := [0x00#8, 0x01#8]

/-- The default ENUM_TABLES (00_scope.md R7). -/
def defaultTables : Config.EnumTables where
  power    := defaultPower
  mode     := defaultMode
  fan      := defaultFan
  vane     := defaultVane
  wideVane := defaultWideVane
  isee     := defaultISee

/-- The default build: BUF_CAP = 512 (00_scope.md R6). -/
def defaultBuild : Config.Build where
  bufCap := 512
  tables := defaultTables

end Sys2Proof.Machine
end

