-- ==== Sys2Proof/Machine/State.lean ====
section
/-! DEFINITION. The machine's state, as plain data: every register of 10_state.md field by field, IBUF, the build
parameters, and the surroundings' coming events; how a step can stop; and the state after reset. A register's reserved
bits read 0 and are not stored (10_state.md R22): Machine/Registers.lean assembles the 32-bit registers a host reads. -/

namespace Sys2Proof.Machine

/-- The classes of the frame-type byte (30_encoding.md R97). -/
inductive FrameClass where
  | setRequest
  | getInfoRequest
  | connectRequest
  | setResponse
  | getInfoResponse
  | connectResponse
  | unknown
deriving DecidableEq, Repr

/-- The classes of the InfoType byte (30_encoding.md R98). -/
inductive InfoClass where
  | settings
  | roomTemp
  | type4
  | timers
  | status
  | maybeStandby
  | unknown
deriving DecidableEq, Repr

/-- PAY_CLASS.GIR_VAR (10_state.md R32). -/
inductive GirVariant where
  | settings
  | roomTemperature
  | status
  | unknown
deriving DecidableEq, Repr

/-- TEMP.TEMP_KIND (10_state.md R37). -/
inductive TempKind where
  /-- HalfDegreesCPlusOffset. -/
  | half
  /-- SetpointMapped. -/
  | setpoint
  /-- RoomTempMapped. -/
  | room
deriving DecidableEq, Repr

/-- The codes of STATUS.RESULT (10_state.md R31). -/
inductive ResultCode where
  | ok
  | incomplete
  | malformed
  | checksumMismatch
  | payloadDecodeError
  | noFrame
  | windowError
  | illegalOp
deriving DecidableEq, Repr

/-- STATUS (10_state.md R24). BUSY is also the engine state ENG (R41), which it reflects exactly. -/
structure Status where
  busy       : Bool
  done       : Bool
  frameValid : Bool
  result     : ResultCode
  lastOp     : BitVec 3
deriving DecidableEq, Repr

/-- FRAME_INFO (10_state.md R27). -/
structure FrameInfo where
  ftRaw   : Byte
  ftClass : FrameClass
  plen    : Byte
deriving DecidableEq, Repr

/-- CKSUM (10_state.md R28). -/
structure Cksum where
  ckRx   : Byte
  ckCalc : Byte
  ckOk   : Bool
deriving DecidableEq, Repr

/-- POS (10_state.md R29). -/
structure Pos where
  restOff    : Half
  payloadOff : Half
deriving DecidableEq, Repr

/-- AUX (10_state.md R30). -/
structure Aux where
  needed  : Half
  junkLen : Half
deriving DecidableEq, Repr

/-- PAY_CLASS (10_state.md R32). -/
structure PayClass where
  pclass    : FrameClass
  girVar    : GirVariant
  infoRaw   : Byte
  infoClass : InfoClass
deriving DecidableEq, Repr

/-- FIELD_VALID, bits 0 to 11 in this order (10_state.md R33). -/
structure FieldValid where
  power     : Bool
  mode      : Bool
  temp      : Bool
  fan       : Bool
  vane      : Bool
  wideVane  : Bool
  isee      : Bool
  compFreq  : Bool
  operating : Bool
  info      : Bool
  conn      : Bool
  flags     : Bool
deriving DecidableEq, Repr

/-- One enumeration field: its raw byte and its UNK bit, as ENUM_A, ENUM_B and ENUM_C hold two each (10_state.md R34 to
R36). -/
structure EnumValue where
  raw : Byte
  unk : Bool
deriving DecidableEq, Repr

/-- TEMP (10_state.md R37). -/
structure Temp where
  raw    : Byte
  kind   : TempKind
  tenths : Half
deriving DecidableEq, Repr

/-- MISC (10_state.md R38). -/
structure Misc where
  compFreq  : Byte
  operating : Byte
  connByte  : Byte
deriving DecidableEq, Repr

/-- SETFLAGS (10_state.md R39). -/
structure SetFlags where
  flags1 : Byte
  flags2 : Byte
deriving DecidableEq, Repr

/-- The decode result registers (10_state.md R32 to R39): what DECODE writes and PARSE clears. ENUM_A is `power` and
`mode`, ENUM_B `fan` and `vane`, ENUM_C `wideVane` and `isee`. -/
structure Record where
  payClass   : PayClass
  fieldValid : FieldValid
  power      : EnumValue
  mode       : EnumValue
  fan        : EnumValue
  vane       : EnumValue
  wideVane   : EnumValue
  isee       : EnumValue
  temp       : Temp
  misc       : Misc
  setFlags   : SetFlags
deriving DecidableEq, Repr

/-- The whole machine. CMD has no field: it has no storage of its own and reads 0 (10_state.md R23). -/
structure State where
  status    : Status
  /-- WIN_BASE (R25). -/
  winBase   : Half
  /-- WIN_LEN (R26). -/
  winLen    : Half
  frameInfo : FrameInfo
  cksum     : Cksum
  pos       : Pos
  aux       : Aux
  record    : Record
  /-- IBUF (R40): the bytes written since reset, by index, in rising order. An index not listed has not been written. -/
  ibuf      : List Host.Cell
  /-- BUF_CAP and ENUM_TABLES (00_scope.md R6, R7). -/
  build     : Config.Build
  /-- The model's own: the surroundings' coming events and the engine's turns (notes/assumptions/1.md). -/
  inputs    : List Input
  /-- The model's own: the data the port returned at the last host read (20_memory.md R60; notes/assumptions/10.md). -/
  readData  : Word
  /-- The model's own: whether an EXPECT line has read another value (30_encoding.md R121; notes/assumptions/11.md). -/
  expectFailed : Bool
  /-- The model's own: how many reads have been numbered, for the free values of unwritten bytes
  (notes/assumptions/3.md, notes/assumptions/4.md). -/
  draws     : Nat
deriving DecidableEq, Repr

/-- How the machine stops with a fault: never. MACFV raises no trap, exception or bus error (60_exceptions.md R400, R404,
R418 "no fault"), so the type has no constructor, which is safe and unsafe to nobody: there is nothing to raise. -/
inductive Fault where
deriving DecidableEq, Repr

/-- How a step can be refused. -/
inductive Refusal where
  /-- Raised by an arm of `exec` for an instruction without a meaning. No arm raises it in this model (60_exceptions.md
  R418 "no refusal"). Safe: nothing can be proved about what such an instruction does. -/
  | notModelled (mnemonic : String)
deriving DecidableEq, Repr

/-- STATUS = 0 (10_state.md R45). -/
def Status.zero : Status := ⟨false, false, false, .ok, 0#3⟩

/-- FRAME_INFO = 0. -/
def FrameInfo.zero : FrameInfo := ⟨0#8, .setRequest, 0#8⟩

/-- CKSUM = 0. -/
def Cksum.zero : Cksum := ⟨0#8, 0#8, false⟩

/-- POS = 0. -/
def Pos.zero : Pos := ⟨0#16, 0#16⟩

/-- AUX = 0. -/
def Aux.zero : Aux := ⟨0#16, 0#16⟩

/-- PAY_CLASS = 0. -/
def PayClass.zero : PayClass := ⟨.setRequest, .settings, 0#8, .settings⟩

/-- FIELD_VALID = 0. -/
def FieldValid.zero : FieldValid :=
  ⟨false, false, false, false, false, false, false, false, false, false, false, false⟩

/-- An enumeration field at 0. -/
def EnumValue.zero : EnumValue := ⟨0#8, false⟩

/-- TEMP = 0. -/
def Temp.zero : Temp := ⟨0#8, .half, 0#16⟩

/-- MISC = 0. -/
def Misc.zero : Misc := ⟨0#8, 0#8, 0#8⟩

/-- SETFLAGS = 0. -/
def SetFlags.zero : SetFlags := ⟨0#8, 0#8⟩

/-- Every decode result register at 0. -/
def Record.zero : Record where
  payClass   := .zero
  fieldValid := .zero
  power      := .zero
  mode       := .zero
  fan        := .zero
  vane       := .zero
  wideVane   := .zero
  isee       := .zero
  temp       := .zero
  misc       := .zero
  setFlags   := .zero

/-- The machine right after reset (10_state.md R45, 70_reset_and_hazards.md R440, R441): every register 0, the engine
idle, no byte of IBUF written. The build is the default one; the model's own fields are at the values of
notes/assumptions/1.md, 4.md, 10.md and 11.md. -/
def State.reset : State where
  status    := .zero
  winBase   := 0#16
  winLen    := 0#16
  frameInfo := .zero
  cksum     := .zero
  pos       := .zero
  aux       := .zero
  record    := .zero
  ibuf      := []
  build     := defaultBuild
  inputs    := []
  readData  := 0#32
  expectFailed := false
  draws     := 0

end Sys2Proof.Machine
end

