-- ==== Sys2Proof/Machine/Ops.lean ====
section
/-! DEFINITION. The operations every command shares: reading and writing IBUF, the window, clearing the frame and decode
registers, and the completion that ends a command with a result code. MACFV takes no exception and returns from none
(60_exceptions.md R400, R408, R409); ending with an error code is `finish`, like every other end. -/

namespace Sys2Proof.Machine

/-- The byte that was written at `a`, if one was. -/
def Memory.read (m : List Host.Cell) (a : Nat) : Option Byte :=
  match m with
  | [] => none
  | (k, v) :: m' => if a = k then some v else Memory.read m' a

/-- Writing byte `b` at `a`. The list stays in rising order. No byte equals what an unwritten address reads as, because
that is a free value, so a write always leaves an entry. -/
def Memory.write (m : List Host.Cell) (a : Nat) (b : Byte) : List Host.Cell :=
  match m with
  | [] => [(a, b)]
  | (k, v) :: m' =>
    if a < k then (a, b) :: (k, v) :: m'
    else if a = k then (a, b) :: m'
    else (k, v) :: Memory.write m' a b

/-- Writing bytes one after the other from `a` up. -/
def Memory.writeAll (m : List Host.Cell) (a : Nat) (bs : List Byte) : List Host.Cell :=
  match bs with
  | [] => m
  | b :: bs' => Memory.writeAll (Memory.write m a b) (a + 1) bs'

/-- The canonical form of IBUF: addresses strictly rising, all below `cap`. -/
abbrev Memory.wf (cap : Nat) (m : List Host.Cell) : Prop :=
  m.Pairwise (fun x y => x.1 < y.1) ∧ ∀ c ∈ m, c.1 < cap

/-- IBUF[i] as a command or a host read sees it: the byte written, or the free value of this read (20_memory.md R81,
70_reset_and_hazards.md R441). -/
def State.ibufByte (s : State) (i : Nat) : Byte :=
  match Memory.read s.ibuf i with
  | some b => b
  | none => Config.unwrittenByte s.draws i

/-- Window byte `k` (10_state.md R26). -/
def State.window (s : State) (k : Nat) : Byte := s.ibufByte (s.winBase.toNat + k)

/-- The window lies in IBUF, computed without wrap-around (10_state.md R26). -/
def State.windowLegal (s : State) : Bool :=
  decide (s.winBase.toNat + s.winLen.toNat ≤ s.build.bufCap)

/-- clear_decode() (42_frame_parser.md R196, 44_payload_decode.md R270). -/
def State.clearDecode (s : State) : State := { s with record := .zero }

/-- clear_frame() (42_frame_parser.md R196): FRAME_INFO, CKSUM and POS.PAYLOAD_OFF. -/
def State.clearFrame (s : State) : State :=
  { s with frameInfo := .zero, cksum := .zero, pos := { s.pos with payloadOff := 0#16 } }

/-- STATUS.FRAME_VALID <- v (10_state.md R42). -/
def State.setFrameValid (v : Bool) (s : State) : State :=
  { s with status := { s.status with frameValid := v } }

/-- accept_command(op) on an idle engine (40_command_interface.md R141). -/
def State.accept (op : BitVec 3) (s : State) : State :=
  { s with status := { s.status with lastOp := op, done := false, busy := true } }

/-- finish(code): how every command ends (40_command_interface.md R143). The reads of the command are over, so the next
ones are new draws of unwritten bytes. -/
def finish (code : ResultCode) (s : State) : State :=
  { s with status := { s.status with result := code, busy := false, done := true }, draws := s.draws + 1 }

end Sys2Proof.Machine
end

