-- ==== Sys2Proof/Machine/Command.lean ====
section
/-! DEFINITION. NOP and the reserved commands (40_command_interface.md R148, R149). -/

namespace Sys2Proof.Machine

/-- What a meaning answers. -/
abbrev Result := Host.Outcome State Fault Refusal

/-- NOP: result OK, and no register but STATUS is written (R148). -/
def execNop (s : State) : Result := .next (finish .ok s)

/-- A reserved OP: result ILLEGAL_OP, and no register but STATUS is written (R149). -/
def illegalOp (s : State) : State := finish .illegalOp s

/-- OP 4 (R149). -/
def execReserved4 (s : State) : Result := .next (illegalOp s)

/-- OP 5 (R149). -/
def execReserved5 (s : State) : Result := .next (illegalOp s)

/-- OP 6 (R149). -/
def execReserved6 (s : State) : Result := .next (illegalOp s)

/-- OP 7 (R149). -/
def execReserved7 (s : State) : Result := .next (illegalOp s)

end Sys2Proof.Machine
end

