-- ==== Sys2Proof/Machine/Checksum.lean ====
section
/-! DEFINITION. The checksum verifier (41_checksum.md): the function CHECKSUM and the comparison PARSE performs last. -/

namespace Sys2Proof.Machine

/-- The 32-bit sum of R170: the start marker, the frame-type byte, the two constants, the length byte, then every payload
byte. -/
def checksumSum (ft len : Byte) (p : List Byte) : Word :=
  p.foldl (fun sum b => sum + b.setWidth 32)
    (0xFC#32 + ft.setWidth 32 + 0x01#32 + 0x30#32 + len.setWidth 32)

/-- CHECKSUM(ft, L, p): 0xFC minus the low 8 bits of the sum, with 8-bit wrap-around (R170; 90_conflicts.md C1, C2). -/
def checksum (ft len : Byte) (p : List Byte) : Byte :=
  0xFC#8 - (checksumSum ft len p).setWidth 8

/-- The verification of a received checksum byte: CK_RX, CK_CALC and CK_OK, equality being the only pass (R172). -/
def verify (rx ft len : Byte) (p : List Byte) : Cksum :=
  ⟨rx, checksum ft len p, rx == checksum ft len p⟩

end Sys2Proof.Machine
end

