-- ==== Sys2Proof/Machine/Registers.lean ====
section
/-! DEFINITION. The 32-bit registers as a host reads them (10_state.md R22 to R39): the codes of the typed fields, and
each register's word with its reserved bits 0. -/

namespace Sys2Proof.Machine

/-- FT_CLASS of a frame-type byte (30_encoding.md R97). -/
def classOfFrameType (b : Byte) : FrameClass :=
  if b = 0x41#8 then .setRequest
  else if b = 0x42#8 then .getInfoRequest
  else if b = 0x5A#8 then .connectRequest
  else if b = 0x61#8 then .setResponse
  else if b = 0x62#8 then .getInfoResponse
  else if b = 0x7A#8 then .connectResponse
  else .unknown

/-- INFO_CLASS of an InfoType byte (30_encoding.md R98). -/
def classOfInfoType (b : Byte) : InfoClass :=
  if b = 0x02#8 then .settings
  else if b = 0x03#8 then .roomTemp
  else if b = 0x04#8 then .type4
  else if b = 0x05#8 then .timers
  else if b = 0x06#8 then .status
  else if b = 0x09#8 then .maybeStandby
  else .unknown

/-- The codes of FT_CLASS and PCLASS (30_encoding.md R97); 7 is never produced. -/
def frameClassCode (c : FrameClass) : BitVec 3 :=
  match c with
  | .setRequest => 0#3
  | .getInfoRequest => 1#3
  | .connectRequest => 2#3
  | .setResponse => 3#3
  | .getInfoResponse => 4#3
  | .connectResponse => 5#3
  | .unknown => 6#3

/-- The codes of INFO_CLASS (R98); 7 is never produced. -/
def infoClassCode (c : InfoClass) : BitVec 3 :=
  match c with
  | .settings => 0#3
  | .roomTemp => 1#3
  | .type4 => 2#3
  | .timers => 3#3
  | .status => 4#3
  | .maybeStandby => 5#3
  | .unknown => 6#3

/-- The codes of GIR_VAR (10_state.md R32). -/
def girVariantCode (v : GirVariant) : BitVec 2 :=
  match v with
  | .settings => 0#2
  | .roomTemperature => 1#2
  | .status => 2#2
  | .unknown => 3#2

/-- The codes of TEMP_KIND (10_state.md R37); 3 is never written. -/
def tempKindCode (k : TempKind) : BitVec 2 :=
  match k with
  | .half => 0#2
  | .setpoint => 1#2
  | .room => 2#2

/-- The codes of STATUS.RESULT (10_state.md R31); 8 to 15 are never written. -/
def resultBits (c : ResultCode) : BitVec 4 :=
  match c with
  | .ok => 0#4
  | .incomplete => 1#4
  | .malformed => 2#4
  | .checksumMismatch => 3#4
  | .payloadDecodeError => 4#4
  | .noFrame => 5#4
  | .windowError => 6#4
  | .illegalOp => 7#4

/-- The registers (10_state.md R22). -/
inductive Reg where
  | cmd
  | status
  | winBase
  | winLen
  | frameInfo
  | cksum
  | pos
  | aux
  | payClass
  | fieldValid
  | enumA
  | enumB
  | enumC
  | temp
  | misc
  | setFlags
deriving DecidableEq, Repr

/-- A register's block offset (R22). -/
def regOffset (r : Reg) : Nat :=
  match r with
  | .cmd => 0x000
  | .status => 0x004
  | .winBase => 0x008
  | .winLen => 0x00C
  | .frameInfo => 0x010
  | .cksum => 0x014
  | .pos => 0x018
  | .aux => 0x01C
  | .payClass => 0x020
  | .fieldValid => 0x024
  | .enumA => 0x028
  | .enumB => 0x02C
  | .enumC => 0x030
  | .temp => 0x034
  | .misc => 0x038
  | .setFlags => 0x03C

/-- Every register, in the order of its offset. -/
def allRegs : List Reg :=
  [.cmd, .status, .winBase, .winLen, .frameInfo, .cksum, .pos, .aux, .payClass, .fieldValid, .enumA, .enumB, .enumC,
    .temp, .misc, .setFlags]

/-- The register at a block offset, if there is one (R22). -/
def regAt (a : Nat) : Option Reg := allRegs.find? (fun r => regOffset r == a)

/-- STATUS (10_state.md R24). -/
def statusWord (x : Status) : Word :=
  0#21 ++ x.lastOp ++ resultBits x.result ++ 0#1 ++ BitVec.ofBool x.frameValid ++ BitVec.ofBool x.done ++
    BitVec.ofBool x.busy

/-- FRAME_INFO (R27). -/
def frameInfoWord (x : FrameInfo) : Word := 0#8 ++ x.plen ++ 0#5 ++ frameClassCode x.ftClass ++ x.ftRaw

/-- CKSUM (R28). -/
def cksumWord (x : Cksum) : Word := 0#15 ++ BitVec.ofBool x.ckOk ++ x.ckCalc ++ x.ckRx

/-- POS (R29). -/
def posWord (x : Pos) : Word := x.payloadOff ++ x.restOff

/-- AUX (R30). -/
def auxWord (x : Aux) : Word := x.junkLen ++ x.needed

/-- PAY_CLASS (R32). -/
def payClassWord (x : PayClass) : Word :=
  0#13 ++ infoClassCode x.infoClass ++ x.infoRaw ++ 0#2 ++ girVariantCode x.girVar ++ 0#1 ++ frameClassCode x.pclass

/-- FIELD_VALID (R33). -/
def fieldValidWord (x : FieldValid) : Word :=
  0#20 ++ BitVec.ofBool x.flags ++ BitVec.ofBool x.conn ++ BitVec.ofBool x.info ++ BitVec.ofBool x.operating ++
    BitVec.ofBool x.compFreq ++ BitVec.ofBool x.isee ++ BitVec.ofBool x.wideVane ++ BitVec.ofBool x.vane ++
    BitVec.ofBool x.fan ++ BitVec.ofBool x.temp ++ BitVec.ofBool x.mode ++ BitVec.ofBool x.power

/-- ENUM_A, ENUM_B and ENUM_C have one shape (R34, R35, R36): the first field in bits 8:0, the second in bits 24:16. -/
def enumWord (lo hi : EnumValue) : Word :=
  0#7 ++ BitVec.ofBool hi.unk ++ hi.raw ++ 0#7 ++ BitVec.ofBool lo.unk ++ lo.raw

/-- TEMP (R37). -/
def tempWord (x : Temp) : Word := x.tenths ++ 0#6 ++ tempKindCode x.kind ++ x.raw

/-- MISC (R38). -/
def miscWord (x : Misc) : Word := 0#8 ++ x.connByte ++ x.operating ++ x.compFreq

/-- SETFLAGS (R39). -/
def setFlagsWord (x : SetFlags) : Word := 0#16 ++ x.flags2 ++ x.flags1

/-- A register's current 32-bit value; CMD reads 0 (20_memory.md R66, 10_state.md R23). -/
def regWord (s : State) (r : Reg) : Word :=
  match r with
  | .cmd => 0#32
  | .status => statusWord s.status
  | .winBase => 0#16 ++ s.winBase
  | .winLen => 0#16 ++ s.winLen
  | .frameInfo => frameInfoWord s.frameInfo
  | .cksum => cksumWord s.cksum
  | .pos => posWord s.pos
  | .aux => auxWord s.aux
  | .payClass => payClassWord s.record.payClass
  | .fieldValid => fieldValidWord s.record.fieldValid
  | .enumA => enumWord s.record.power s.record.mode
  | .enumB => enumWord s.record.fan s.record.vane
  | .enumC => enumWord s.record.wideVane s.record.isee
  | .temp => tempWord s.record.temp
  | .misc => miscWord s.record.misc
  | .setFlags => setFlagsWord s.record.setFlags

end Sys2Proof.Machine
end

