-- ==== Sys2Proof/Machine/FrameParser.lean ====
section
/-! DEFINITION. SCAN and PARSE (42_frame_parser.md). Below, base is WIN_BASE and n is WIN_LEN. -/

namespace Sys2Proof.Machine

/-- The index of the first start marker 0xFC among window bytes 0 to n-1 (R190). -/
def firstMarker (s : State) : Option Nat :=
  (List.range s.winLen.toNat).find? (fun k => s.window k == 0xFC#8)

/-- SCAN's and PARSE's position outputs that are numbers: REST_OFF, NEEDED, JUNK_LEN, as 16-bit fields (R191, R201). -/
def State.setPosition (rest needed junk : Nat) (s : State) : State :=
  { s with
    pos := { s.pos with restOff := BitVec.ofNat 16 rest }
    aux := ⟨BitVec.ofNat 16 needed, BitVec.ofNat 16 junk⟩ }

/-- SCAN (R190, R191). -/
def execScan (s : State) : Result :=
  let base := s.winBase.toNat
  let n := s.winLen.toNat
  if s.windowLegal then
    match firstMarker s with
    | some k => .next (finish .ok (s.setPosition (base + k) 0 k))
    | none => .next (finish .incomplete (s.setPosition (base + n) 1 n))
  else .next (finish .windowError s)

/-- The start of every PARSE: FRAME_VALID and the decode result registers are cleared (R196, 10_state.md R42). -/
def parseStart (s : State) : State := (s.setFrameValid false).clearDecode

/-- needed(n, b) of P_AVAIL: the bytes missing from the whole frame once the length byte is there, else from the 6-byte
minimum (R200). -/
def neededShort (s : State) : Nat :=
  let n := s.winLen.toNat
  if 5 ≤ n then 6 + (s.window 4).toNat - n else 6 - n

/-- The payload bytes of a window that holds the whole frame: b[5 .. 5+L) (R199). -/
def windowPayload (s : State) (len : Nat) : List Byte :=
  (List.range len).map (fun k => s.window (5 + k))

/-- P_CHECK: the frame is reported, then verified (R199, R196; 41_checksum.md R172, R175). -/
def pCheck (s : State) : State :=
  let base := s.winBase.toNat
  let ft := s.window 1
  let len := s.window 4
  let ck := verify (s.window (5 + len.toNat)) ft len (windowPayload s len.toNat)
  let t := { s with
    frameInfo := ⟨ft, classOfFrameType ft, len⟩
    cksum := ck
    pos := ⟨BitVec.ofNat 16 (base + 6 + len.toNat), BitVec.ofNat 16 (base + 5)⟩
    aux := { s.aux with needed := 0#16 } }
  if ck.ckOk then finish .ok (t.setFrameValid true) else finish .checksumMismatch t

/-- P_LEN: the window must hold 6 + L bytes (R199, R200). -/
def pLen (s : State) : State :=
  let base := s.winBase.toNat
  let n := s.winLen.toNat
  let len := (s.window 4).toNat
  if n < 6 + len then finish .incomplete (s.clearFrame.setPosition base (6 + len - n) 0)
  else pCheck s

/-- The three fixed bytes of the envelope do not all match (30_encoding.md R95). -/
def headerMismatch (s : State) : Bool :=
  s.window 0 != 0xFC#8 || s.window 2 != 0x01#8 || s.window 3 != 0x30#8

/-- P_HDR: the fixed bytes (R198). -/
def pHdr (s : State) : State :=
  if headerMismatch s then finish .malformed (s.clearFrame.setPosition (s.winBase.toNat + 1) 0 0)
  else pLen s

/-- P_AVAIL: a window of fewer than 6 bytes is INCOMPLETE, whatever its bytes (R197). -/
def pAvail (s : State) : State :=
  if s.winLen.toNat < 6 then finish .incomplete (s.clearFrame.setPosition s.winBase.toNat (neededShort s) 0)
  else pHdr s

/-- P_WIN: an illegal window; POS.REST_OFF and AUX keep their values. On a legal one JUNK_LEN is cleared (R196). -/
def pWin (s : State) : State :=
  if s.windowLegal then pAvail { s with aux := { s.aux with junkLen := 0#16 } }
  else finish .windowError s.clearFrame

/-- PARSE (R195, R196). -/
def execParse (s : State) : Result := .next (pWin (parseStart s))

end Sys2Proof.Machine
end

