-- ==== Sys2Proof/Machine/Operands.lean ====
section
/-! DEFINITION. The operand forms of the payload fields (30_encoding.md R116; 43_payload_fields.md): bit-field
extraction, the bounded payload read, enumerations, and the temperature codec. None of them can fail but the bounded
read, whose `none` is DecodeFault (44_payload_decode.md R271). -/

namespace Sys2Proof.Machine

/-- flag(x, k) = (x >> k) & 1 (43_payload_fields.md R234). -/
def flag (x : Byte) (k : Nat) : Bool := (x >>> k) &&& 1#8 == 1#8

/-- field3_lo(x) = x & 0x07, bits 2:0 (R234). -/
def field3Lo (x : Byte) : Byte := x &&& 0x07#8

/-- bit3(x) = (x >> 3) & 1 (R234). -/
def bit3 (x : Byte) : Byte := (x >>> 3) &&& 1#8

/-- The payload length L that the frame registers hold (44_payload_decode.md, head). -/
def State.payloadLen (s : State) : Nat := s.frameInfo.plen.toNat

/-- Payload byte i, IBUF[PAYLOAD_OFF + i]. -/
def State.payload (s : State) (i : Nat) : Byte := s.ibufByte (s.pos.payloadOff.toNat + i)

/-- rd(i), the bounded payload read: `none` is DecodeFault (44_payload_decode.md R271). -/
def State.rd (s : State) (i : Nat) : Option Byte :=
  if i < s.payloadLen then some (s.payload i) else none

/-- The enumeration fields (43_payload_fields.md R231). -/
inductive EnumField where
  | power
  | mode
  | fan
  | vane
  | wideVane
  | isee
deriving DecidableEq, Repr

/-- The table of an enumeration field (R231). -/
def tableOf (t : Config.EnumTables) (f : EnumField) : List Byte :=
  match f with
  | .power => t.power
  | .mode => t.mode
  | .fan => t.fan
  | .vane => t.vane
  | .wideVane => t.wideVane
  | .isee => t.isee

/-- in_table(T, v) (R230). -/
def inTable (t : List Byte) (v : Byte) : Bool := t.contains v

/-- set_enum(F, T, v): the valid bit, the raw byte, and UNK when the byte is not in the table (R230, R231). -/
def setEnum (t : Config.EnumTables) (f : EnumField) (v : Byte) (r : Record) : Record :=
  let e : EnumValue := ⟨v, !inTable (tableOf t f) v⟩
  match f with
  | .power => { r with fieldValid := { r.fieldValid with power := true }, power := e }
  | .mode => { r with fieldValid := { r.fieldValid with mode := true }, mode := e }
  | .fan => { r with fieldValid := { r.fieldValid with fan := true }, fan := e }
  | .vane => { r with fieldValid := { r.fieldValid with vane := true }, vane := e }
  | .wideVane => { r with fieldValid := { r.fieldValid with wideVane := true }, wideVane := e }
  | .isee => { r with fieldValid := { r.fieldValid with isee := true }, isee := e }

/-- The physical value of a temperature byte in tenths of a degree Celsius, exactly (R240, R241, R242). -/
def tenths (k : TempKind) (v : Byte) : Int :=
  match k with
  | .half => ((v.toNat : Int) - 128) * 5
  | .setpoint => (31 - (v.toNat : Int)) * 10
  | .room => ((v.toNat : Int) + 10) * 10

/-- set_temp(kind, v) (R243). -/
def setTemp (k : TempKind) (v : Byte) (r : Record) : Record :=
  { r with fieldValid := { r.fieldValid with temp := true }, temp := ⟨v, k, BitVec.ofInt 16 (tenths k v)⟩ }

/-- resolve(mapped_kind, mapped_v, half_v): the mapped reading counts only when the half-degree byte is 0 (R244). -/
def resolve (mapped : TempKind) (mappedV halfV : Byte) : TempKind × Byte :=
  if halfV = 0x00#8 then (mapped, mappedV) else (.half, halfV)

/-- A field that is read only when its presence flag is set, by the bounded read: a field that is absent is not read, so
its byte may lie beyond the payload (44_payload_decode.md R275). -/
def gated (present : Bool) (v : Option Byte) (put : Byte → Record → Record) (r : Record) : Option Record :=
  if present then
    match v with
    | some b => some (put b r)
    | none => none
  else some r

end Sys2Proof.Machine
end

