-- ==== Sys2Proof/Machine/Flags.lean ====
section
/-! DEFINITION. The flags computed from data: the SetRequest presence flags (43_payload_fields.md R236) and the engine
state that STATUS.BUSY reflects (10_state.md R41). -/

namespace Sys2Proof.Machine

/-- ENG (10_state.md R41). -/
inductive Eng where
  | idle
  | busy
deriving DecidableEq, Repr

/-- STATUS.BUSY reflects ENG exactly (R41), so ENG is read off it (notes/assumptions/13.md). -/
def engineState (s : State) : Eng := if s.status.busy then .busy else .idle

/-- FLAGS1 bit 0 gates power (43_payload_fields.md R236, 30_encoding.md R101). -/
def powerPresent (flags1 : Byte) : Bool := flag flags1 0

/-- FLAGS1 bit 1 gates mode (R236). -/
def modePresent (flags1 : Byte) : Bool := flag flags1 1

/-- FLAGS1 bit 2 gates temperature (R236). -/
def tempPresent (flags1 : Byte) : Bool := flag flags1 2

/-- FLAGS1 bit 3 gates fan (R236). -/
def fanPresent (flags1 : Byte) : Bool := flag flags1 3

/-- FLAGS1 bit 4 gates vane (R236). -/
def vanePresent (flags1 : Byte) : Bool := flag flags1 4

/-- FLAGS2 bit 0 gates widevane (R236). -/
def wideVanePresent (flags2 : Byte) : Bool := flag flags2 0

end Sys2Proof.Machine
end

