-- ==== Sys2Proof/Machine/PayloadDecode.lean ====
section
/-! DEFINITION. What every payload decoder shares (44_payload_decode.md R270 to R274): the record it starts from, and
how its answer becomes the result registers. -/

namespace Sys2Proof.Machine

/-- clear_decode() and PCLASS <- FT_CLASS: the record a decoder starts from, and the one an error leaves (R270). -/
def startRecord (s : State) : Record :=
  { Record.zero with payClass := { PayClass.zero with pclass := s.frameInfo.ftClass } }

/-- DECODE by one decoder: NO_FRAME without a valid frame, else the decoder's record with OK, or, when it raises
DecodeFault (`none`), only PCLASS with PAYLOAD_DECODE_ERROR (R270, R271). -/
def runDecoder (decoder : State → Option Record) (s : State) : State :=
  if s.status.frameValid then
    match decoder s with
    | some r => finish .ok { s with record := r }
    | none => finish .payloadDecodeError { s with record := startRecord s }
  else finish .noFrame s

/-- INFO_RAW, INFO_CLASS and INFO_V of an InfoType byte (R278, R285). -/
def setInfo (t : Byte) (r : Record) : Record :=
  { r with
    payClass := { r.payClass with infoRaw := t, infoClass := classOfInfoType t }
    fieldValid := { r.fieldValid with info := true } }

/-- The payload's tag, if there is one (R285). -/
def girTag (s : State) : Option Byte := s.rd 0

/-- PAY_CLASS.GIR_VAR <- v (R285 to R290). -/
def setGirVariant (v : GirVariant) (r : Record) : Record :=
  { r with payClass := { r.payClass with girVar := v } }

end Sys2Proof.Machine
end

