-- ==== Sys2Proof/Machine/PayloadRequest.lean ====
section
/-! DEFINITION. The request decoders of DECODE: SetRequest, GetInfoRequest, ConnectRequest (44_payload_decode.md R275 to
R280). -/

namespace Sys2Proof.Machine

/-- SETFLAGS and FLAGS_V (R275). -/
def setFlagBytes (f1 f2 : Byte) (r : Record) : Record :=
  { r with setFlags := ⟨f1, f2⟩, fieldValid := { r.fieldValid with flags := true } }

/-- The flagged fields of a SetRequest in program order, each at its fixed index whatever the flags of the others (R275,
R276). The temperature is the half-degree byte at index 14 alone, with no fallback (R277, 43_payload_fields.md R245). -/
def setRequestFields (s : State) (f1 f2 : Byte) (r : Record) : Option Record :=
  let t := s.build.tables
  (gated (powerPresent f1) (s.rd 3) (setEnum t .power) r).bind fun r =>
  (gated (modePresent f1) (s.rd 4) (setEnum t .mode) r).bind fun r =>
  (gated (tempPresent f1) (s.rd 14) (setTemp .half) r).bind fun r =>
  (gated (fanPresent f1) (s.rd 6) (setEnum t .fan) r).bind fun r =>
  (gated (vanePresent f1) (s.rd 7) (setEnum t .vane) r).bind fun r =>
  gated (wideVanePresent f2) (s.rd 13) (setEnum t .wideVane) r

/-- The SetRequest decoder (R275). -/
def setRequestDecoder (s : State) : Option Record :=
  (s.rd 0).bind fun c =>
  if c = 0x01#8 then
    (s.rd 1).bind fun f1 =>
    (s.rd 2).bind fun f2 => setRequestFields s f1 f2 (setFlagBytes f1 f2 (startRecord s))
  else none

/-- The GetInfoRequest decoder: index 0 only (R278). -/
def getInfoRequestDecoder (s : State) : Option Record :=
  (s.rd 0).map fun t => setInfo t (startRecord s)

/-- The ConnectRequest decoder: the two magic bytes (R280). -/
def connectRequestDecoder (s : State) : Option Record :=
  (s.rd 0).bind fun b0 =>
  if b0 = 0xCA#8 then
    (s.rd 1).bind fun b1 => if b1 = 0x01#8 then some (startRecord s) else none
  else none

/-- DECODE of a SetRequest (R275). -/
def execDecodeSetRequest (s : State) : Result := .next (runDecoder setRequestDecoder s)

/-- DECODE of a GetInfoRequest (R278). -/
def execDecodeGetInfoRequest (s : State) : Result := .next (runDecoder getInfoRequestDecoder s)

/-- DECODE of a ConnectRequest (R280). -/
def execDecodeConnectRequest (s : State) : Result := .next (runDecoder connectRequestDecoder s)

end Sys2Proof.Machine
end

