-- ==== Sys2Proof/Machine/PayloadResponse.lean ====
section
/-! DEFINITION. The response decoders of DECODE: SetResponse, ConnectResponse, the Unknown type, and GetInfoResponse with
its variants (44_payload_decode.md R282 to R291). -/

namespace Sys2Proof.Machine

/-- The SetResponse decoder reads nothing (R282). -/
def setResponseDecoder (s : State) : Option Record := some (startRecord s)

/-- The ConnectResponse decoder: one opaque byte (R283). -/
def connectResponseDecoder (s : State) : Option Record :=
  (s.rd 0).map fun b =>
    let r := startRecord s
    { r with misc := { r.misc with connByte := b }, fieldValid := { r.fieldValid with conn := true } }

/-- The Unknown-type decoder reads nothing; PCLASS 6 is the marker (R284). -/
def unknownDecoder (s : State) : Option Record := some (startRecord s)

/-- What every GetInfoResponse records first: GIR_VAR 3 unless a variant matches, and the tag when L ≥ 1 (R285). This is
also the whole of the Unknown variant (R290). -/
def girStart (s : State) : Record :=
  let r := setGirVariant .unknown (startRecord s)
  match girTag s with
  | some t => setInfo t r
  | none => r

/-- settings(), for a payload of at least 12 bytes (R286). -/
def settingsRecord (s : State) (r : Record) : Record :=
  let t := s.build.tables
  let p := s.payload
  let setpoint := resolve .setpoint (p 5) (p 11)
  let r := setGirVariant .settings r
  let r := setEnum t .power (p 3) r
  let r := setEnum t .mode (field3Lo (p 4)) r
  let r := setEnum t .isee (bit3 (p 4)) r
  let r := setTemp setpoint.1 setpoint.2 r
  let r := setEnum t .fan (p 6) r
  let r := setEnum t .vane (p 7) r
  setEnum t .wideVane (p 10) r

/-- room_temperature(), for a payload of at least 7 bytes (R287). -/
def roomTemperatureRecord (s : State) (r : Record) : Record :=
  let p := s.payload
  let temp := resolve .room (p 3) (p 6)
  setTemp temp.1 temp.2 (setGirVariant .roomTemperature r)

/-- status(), for a payload of at least 5 bytes (R289). -/
def statusRecord (s : State) (r : Record) : Record :=
  let r := setGirVariant .status r
  { r with
    misc := { r.misc with compFreq := s.payload 3, operating := s.payload 4 }
    fieldValid := { r.fieldValid with compFreq := true, operating := true } }

/-- The Settings variant; a payload too short for it is Unknown (R285, R286, R290). -/
def settingsDecoder (s : State) : Option Record :=
  some (if 12 ≤ s.payloadLen then settingsRecord s (girStart s) else girStart s)

/-- The RoomTemperature variant; a payload too short for it is Unknown (R285, R287, R290). -/
def roomTemperatureDecoder (s : State) : Option Record :=
  some (if 7 ≤ s.payloadLen then roomTemperatureRecord s (girStart s) else girStart s)

/-- The Timers variant consumes only the tag and yields Unknown (R288). -/
def timersDecoder (s : State) : Option Record := some (girStart s)

/-- The Status variant; a payload too short for it is Unknown (R285, R289, R290). -/
def statusDecoder (s : State) : Option Record :=
  some (if 5 ≤ s.payloadLen then statusRecord s (girStart s) else girStart s)

/-- Every other tag, and no tag at all, is Unknown (R290). -/
def girUnknownDecoder (s : State) : Option Record := some (girStart s)

/-- DECODE of a SetResponse (R282). -/
def execDecodeSetResponse (s : State) : Result := .next (runDecoder setResponseDecoder s)

/-- DECODE of a ConnectResponse (R283). -/
def execDecodeConnectResponse (s : State) : Result := .next (runDecoder connectResponseDecoder s)

/-- DECODE of a frame of unknown type (R284). -/
def execDecodeUnknown (s : State) : Result := .next (runDecoder unknownDecoder s)

/-- DECODE of a GetInfoResponse whose tag is 0x02 (R286). -/
def execGirSettings (s : State) : Result := .next (runDecoder settingsDecoder s)

/-- DECODE of a GetInfoResponse whose tag is 0x03 (R287). -/
def execGirRoomTemperature (s : State) : Result := .next (runDecoder roomTemperatureDecoder s)

/-- DECODE of a GetInfoResponse whose tag is 0x05 (R288). -/
def execGirTimers (s : State) : Result := .next (runDecoder timersDecoder s)

/-- DECODE of a GetInfoResponse whose tag is 0x06 (R289). -/
def execGirStatus (s : State) : Result := .next (runDecoder statusDecoder s)

/-- DECODE of a GetInfoResponse with any other tag, or with none (R290). -/
def execGirUnknown (s : State) : Result := .next (runDecoder girUnknownDecoder s)

/-- GetInfoResponse's match on the tag, in the order of R285; a payload without a tag is Unknown. -/
def execDecodeGetInfoResponse (s : State) : Result :=
  match girTag s with
  | none => execGirUnknown s
  | some t =>
    if t = 0x02#8 then execGirSettings s
    else if t = 0x03#8 then execGirRoomTemperature s
    else if t = 0x05#8 then execGirTimers s
    else if t = 0x06#8 then execGirStatus s
    else execGirUnknown s

end Sys2Proof.Machine
end

