-- ==== Sys2Proof/Machine/PayloadDispatch.lean ====
section
/-! DEFINITION. The DECODE command (44_payload_decode.md R270, R272). -/

namespace Sys2Proof.Machine

/-- DECODE: NO_FRAME without a valid frame, in which case no register but STATUS is written (R270); else the decoder of
FT_CLASS, and of no other register (R272). No other decoder is tried (R273). -/
def execDecode (s : State) : Result :=
  if s.status.frameValid then
    match s.frameInfo.ftClass with
    | .setRequest => execDecodeSetRequest s
    | .getInfoRequest => execDecodeGetInfoRequest s
    | .connectRequest => execDecodeConnectRequest s
    | .setResponse => execDecodeSetResponse s
    | .getInfoResponse => execDecodeGetInfoResponse s
    | .connectResponse => execDecodeConnectResponse s
    | .unknown => execDecodeUnknown s
  else .next (finish .noFrame s)

end Sys2Proof.Machine
end

