-- ==== Sys2Proof/Machine/Dispatch.lean ====
section
/-! DEFINITION. `exec`: the completion step of each instruction (40_command_interface.md R143), one arm a constructor. -/

namespace Sys2Proof.Machine

def exec (i : Instr) (s : State) : Host.Outcome State Fault Refusal :=
  match i with
  | .nop => Sys2Proof.Machine.execNop s
  | .scan => Sys2Proof.Machine.execScan s
  | .parse => Sys2Proof.Machine.execParse s
  | .decode => Sys2Proof.Machine.execDecode s
  | .reserved4 => Sys2Proof.Machine.execReserved4 s
  | .reserved5 => Sys2Proof.Machine.execReserved5 s
  | .reserved6 => Sys2Proof.Machine.execReserved6 s
  | .reserved7 => Sys2Proof.Machine.execReserved7 s
  | .decodeSetRequest => Sys2Proof.Machine.execDecodeSetRequest s
  | .decodeGetInfoRequest => Sys2Proof.Machine.execDecodeGetInfoRequest s
  | .decodeConnectRequest => Sys2Proof.Machine.execDecodeConnectRequest s
  | .decodeSetResponse => Sys2Proof.Machine.execDecodeSetResponse s
  | .decodeGetInfoResponse => Sys2Proof.Machine.execDecodeGetInfoResponse s
  | .decodeConnectResponse => Sys2Proof.Machine.execDecodeConnectResponse s
  | .decodeUnknown _ => Sys2Proof.Machine.execDecodeUnknown s
  | .girSettings => Sys2Proof.Machine.execGirSettings s
  | .girRoomTemperature => Sys2Proof.Machine.execGirRoomTemperature s
  | .girTimers => Sys2Proof.Machine.execGirTimers s
  | .girStatus => Sys2Proof.Machine.execGirStatus s
  | .girUnknown _ => Sys2Proof.Machine.execGirUnknown s

end Sys2Proof.Machine
end

