-- ==== Sys2Proof/Machine/HostPort.lean ====
section
/-! DEFINITION. The host port: reads and writes at transaction level (20_memory.md R60 to R71), the reset input
(70_reset_and_hazards.md R440, R441), and host scripts' expansion into accesses (30_encoding.md R120, R121). -/

namespace Sys2Proof.Machine

/-- The number of bytes of an access (R60). -/
def sizeBytes (n : AccessSize) : Nat :=
  match n with
  | .one => 1
  | .two => 2
  | .four => 4

/-- Where IBUF begins in the block (R61). -/
def ibufBase : Nat := 0x400

/-- A block offset at which an access begins inside IBUF (R61). -/
def inIbuf (s : State) (a : Nat) : Bool := decide (ibufBase ≤ a) && decide (a < ibufBase + s.build.bufCap)

/-- Legal access shapes (R63): registers take aligned 4-byte accesses only; an IBUF access is naturally aligned and ends
inside IBUF. A reserved offset has no effect whatever the shape (R62; notes/assumptions/15.md). -/
def legal (s : State) (a : Nat) (n : AccessSize) : Bool :=
  if a < 0x40 then n == .four && a % 4 == 0
  else if inIbuf s a then a % sizeBytes n == 0 && decide (a + sizeBytes n ≤ ibufBase + s.build.bufCap)
  else true

/-- The lanes of a read of `n` IBUF bytes from index `i` up: byte k in bits 8k+7:8k, other lanes 0 (R65, R66). -/
def ibufLanes (s : State) (i n : Nat) : Word :=
  (List.range n).foldr (fun k w => w ||| (s.ibufByte (i + k)).setWidth 32 <<< (8 * k)) 0#32

/-- MemRead(a, n): the data a host read returns (R66). -/
def memRead (s : State) (a : Offset) (n : AccessSize) : Word :=
  if legal s a.toNat n then
    if inIbuf s a.toNat then ibufLanes s (a.toNat - ibufBase) (sizeBytes n)
    else
      match regAt a.toNat with
      | some r => regWord s r
      | none => 0#32
  else 0#32

/-- The bytes that a write of `n` bytes of `v` carries, the lowest lane first (R65). -/
def writeBytes (n : AccessSize) (v : Word) : List Byte := (List.range (sizeBytes n)).map (lane v)

/-- MemWrite(a, n, v) (R67): a legal write to CMD starts a command, unless one is pending; every other write is ignored
while BUSY; a write to IBUF clears FRAME_VALID; WIN_BASE and WIN_LEN take the low 16 bits; all else is ignored. -/
def memWrite (s : State) (a : Offset) (n : AccessSize) (v : Word) : State :=
  if legal s a.toNat n then
    if a.toNat = 0x000 then
      if s.status.busy then s else s.accept (commandOp v)
    else if s.status.busy then s
    else if inIbuf s a.toNat then
      ({ s with ibuf := Memory.writeAll s.ibuf (a.toNat - ibufBase) (writeBytes n v) }).setFrameValid false
    else if a.toNat = 0x008 then { s with winBase := v.setWidth 16 }
    else if a.toNat = 0x00C then { s with winLen := v.setWidth 16 }
    else s
  else s

/-- A host read as a step: the port holds the data; no register and no byte changes (R66, R71). The next read of an
unwritten byte is a new draw (R81). -/
def hostRead (s : State) (a : Offset) (n : AccessSize) : State :=
  { s with readData := memRead s a n, draws := s.draws + 1 }

/-- reset() (70_reset_and_hazards.md R440, R441): a pending command is discarded, every register is 0, and every byte of
IBUF is unspecified, whatever it was. The build, the coming events, the port's data, the script's failure mark and the
numbering of the draws are not registers and stay. -/
def applyReset (s : State) : State :=
  { State.reset with
    build := s.build
    inputs := s.inputs
    readData := s.readData
    expectFailed := s.expectFailed
    draws := s.draws }

/-- One poll of WAIT (30_encoding.md R121): a read of STATUS, and when DONE is not yet 1, the engine's turn and then WAIT
again (40_command_interface.md R144: a pending completion is eventually taken; notes/assumptions/11.md). -/
def waitPoll (s : State) : State :=
  let t := hostRead s 0x004#11 .four
  if t.readData.getLsbD 1 then t else { t with inputs := .engine :: .wait :: t.inputs }

/-- Bits `hi` down to `lo` of a word (00_scope.md R10). -/
def fieldOf (w : Word) (hi lo : Nat) : Nat := w.toNat / 2 ^ lo % 2 ^ (hi + 1 - lo)

/-- EXPECT (R121): a read of the register, and the mark when its field is not `v`. -/
def expectRead (s : State) (a : Offset) (hi lo v : Nat) : State :=
  let t := hostRead s a .four
  { t with expectFailed := t.expectFailed || fieldOf t.readData hi lo != v }

/-- A block offset of IBUF byte `i` (R121). -/
def ibufOffset (i : Nat) : Offset := BitVec.ofNat 11 (ibufBase + i)

/-- `LOAD i, …` as byte writes (R121). -/
def loadLines (i : Nat) (bytes : List Byte) : List Input :=
  match bytes with
  | [] => []
  | b :: bs => .write (ibufOffset i) .one (b.setWidth 32) :: loadLines (i + 1) bs

/-- A script line's expansion into events (R120, R121). -/
def expandLine (l : ScriptLine) : List Input :=
  match l with
  | .w32 a v => [.write a .four v]
  | .w16 a v => [.write a .two (v.setWidth 32)]
  | .w8 a v => [.write a .one (v.setWidth 32)]
  | .r32 a => [.read a .four]
  | .load i bs => loadLines i bs
  | .win base len => [.write 0x008#11 .four base, .write 0x00C#11 .four len]
  | .wait => [.wait]
  | .run op => [.write 0x000#11 .four op, .wait]
  | .expect a v => [.expect a 31 0 v.toNat]
  | .expectField a hi lo v => [.expect a hi lo v]

/-- A script's expansion. -/
def expandScript (ls : List ScriptLine) : List Input := ls.flatMap expandLine

end Sys2Proof.Machine
end

