-- ==== Sys2Proof/Machine/Fetch.lean ====
section
/-! DEFINITION. Which instruction is next: MACFV fetches none (10_state.md R21, 20_memory.md R77), the command pending in
STATUS.LAST_OP is it. And how an opcode-table word is placed there, for `State.withFetchWord`. -/

namespace Sys2Proof.Machine

/-- The pending command (10_state.md R41, 40_command_interface.md R143). -/
def pendingInstr (s : State) : Instr := decodeOp s.status.lastOp

/-- Whether the engine moves in the next step: a command is pending, and no other event comes first. -/
def engineMoves (s : State) : Bool :=
  s.status.busy &&
    (match s.inputs with
    | [] => true
    | .engine :: _ => true
    | _ => false)

/-- The engine's turn comes before the events that wait, if any do. -/
def engineFirst (s : State) : State :=
  match s.inputs with
  | [] => s
  | i :: is => { s with inputs := .engine :: i :: is }

/-- The command word `w` accepted, and the engine's turn next (40_command_interface.md R141). -/
def placeCommand (w : Word) (s : State) : State := engineFirst (s.accept (commandOp w))

/-- The bytes of a frame of type `ft` with payload `p` (30_encoding.md R93). -/
def frameBytes (ft : Byte) (p : List Byte) : List Byte :=
  let len : Byte := BitVec.ofNat 8 p.length
  [0xFC#8, ft, 0x01#8, 0x30#8, len] ++ p ++ [checksum ft len p]

/-- A frame of type `ft` and payload `p` at IBUF index 0, parsed, and DECODE accepted, the engine's turn next
(notes/assumptions/9.md). -/
def placeFrame (ft : Byte) (p : List Byte) (s : State) : State :=
  let bytes := frameBytes ft p
  let loaded := { s with
    ibuf := Memory.writeAll s.ibuf 0 bytes
    winBase := 0#16
    winLen := BitVec.ofNat 16 bytes.length }
  placeCommand 3#32 (pWin (parseStart loaded))

/-- Fifteen zero bytes: what follows the first payload byte of a 16-byte payload (30_encoding.md R99). -/
def zeroFill : List Byte := List.replicate 15 0#8

/-- An opcode-table word placed as the next instruction: a command word as the accepted command; a frame type as the type
of a parsed frame of 16 zero payload bytes; a tag as the first byte of such a GetInfoResponse (notes/assumptions/8.md,
9.md). -/
def placeWord (nbits w : Nat) (s : State) : State :=
  let v : Word := BitVec.ofNat 32 w
  if nbits ≤ 8 then
    match formatOfTableByte (lane v 0) with
    | .cmd => placeCommand v s
    | .frame => placeFrame (lane v 0) (0#8 :: zeroFill) s
    | .gir => placeFrame 0x62#8 (lane v 0 :: zeroFill) s
  else placeCommand v s

end Sys2Proof.Machine
end

