-- ==== Sys2Proof/Machine/Step.lean ====
section
/-! DEFINITION. One step of the machine: the next event of the surroundings, or the engine's completion of the pending
command (00_scope.md R14, 40_command_interface.md R140, R143). -/

namespace Sys2Proof.Machine

/-- The engine's turn: the pending command completes; an idle engine performs no step (40_command_interface.md R143,
60_exceptions.md R417). -/
def engineTurn (s : State) : Host.Outcome State Fault Refusal :=
  if s.status.busy then exec (pendingInstr s) s else .next s

/-- One event, the rest of the events waiting in `s`. -/
def inputStep (i : Input) (s : State) : Host.Outcome State Fault Refusal :=
  match i with
  | .read a n => .next (hostRead s a n)
  | .write a n v => .next (memWrite s a n v)
  | .engine => engineTurn s
  | .reset => .next (applyReset s)
  | .wait => .next (waitPoll s)
  | .expect a hi lo v => .next (expectRead s a hi lo v)

/-- One step. When no event waits, the engine has its turn (weak fairness, 40_command_interface.md R144;
notes/assumptions/2.md). -/
def step (s : State) : Host.Outcome State Fault Refusal :=
  match s.inputs with
  | [] => engineTurn s
  | i :: is => inputStep i { s with inputs := is }

/-- `s` with the opcode-table word `w` placed where the next step runs it (notes/assumptions/9.md). -/
def State.withFetchWord (s : State) (nbits w : Nat) : State := placeWord nbits w s

end Sys2Proof.Machine
end

