-- ==== Sys2Proof/Machine/Resync.lean ====
section
/-! DEFINITION. The host's resynchronisation loop over the machine (42_frame_parser.md R210 to R212): the host's duty, as a
program over host writes and completions. -/

namespace Sys2Proof.Machine

/-- The host's side of the loop (R210): `pos`, an IBUF index; `fin`, one past the last byte written; and whether the
loop is in state FRAME (else SEEK). -/
structure HostLoop where
  pos   : Nat
  fin   : Nat
  frame : Bool
deriving DecidableEq, Repr

/-- What one turn of the loop comes to (R211). -/
inductive LoopTurn where
  /-- The loop goes on. -/
  | goes (l : HostLoop) (s : State)
  /-- More bytes must arrive first. -/
  | waits (l : HostLoop) (s : State)
  /-- The host set an illegal window. -/
  | hostError (s : State)
deriving DecidableEq, Repr

/-- `WIN base, len` (30_encoding.md R121). -/
def setWindow (base len : Nat) (s : State) : State :=
  memWrite (memWrite s 0x008#11 .four (BitVec.ofNat 32 base)) 0x00C#11 .four (BitVec.ofNat 32 len)

/-- `RUN op` from an idle engine: the CMD write, and the completion that WAIT waits for (R121). -/
def runCommand (op : Word) (s : State) : State :=
  match engineTurn (memWrite s 0x000#11 .four op) with
  | .next t => t
  | .fault _ => s
  | .refused _ => s

/-- One turn of the loop, by the table of R211. After a frame that passes, the record is decoded first
(notes/assumptions/20.md). -/
def loopTurn (l : HostLoop) (s : State) : LoopTurn :=
  let w := setWindow l.pos (l.fin - l.pos) s
  let t := runCommand (if l.frame then 2#32 else 1#32) w
  let rest := t.pos.restOff.toNat
  if l.frame then
    match t.status.result with
    | .ok => .goes ⟨rest, l.fin, false⟩ (runCommand 3#32 t)
    | .checksumMismatch => .goes ⟨rest, l.fin, false⟩ t
    | .malformed => .goes ⟨rest, l.fin, false⟩ t
    | .incomplete => .waits l t
    | _ => .hostError t
  else
    match t.status.result with
    | .ok => .goes ⟨rest, l.fin, true⟩ t
    | .incomplete => .waits ⟨rest, l.fin, false⟩ t
    | _ => .hostError t

/-- At most `fuel` turns of the loop, as long as it goes on. -/
def loopRun (fuel : Nat) (l : HostLoop) (s : State) : LoopTurn :=
  match fuel with
  | 0 => .goes l s
  | k + 1 =>
    match loopTurn l s with
    | .goes l' s' => loopRun k l' s'
    | .waits l' s' => .waits l' s'
    | .hostError s' => .hostError s'

end Sys2Proof.Machine
end

