-- ==== Sys2Proof/Safety.lean ====
section
/-! DEFINITION. What counts as a sound state and a safe run of MACFV, in the terms the statements use. -/

namespace Sys2Proof.Machine

/-- The bytes `bs` stand written in IBUF from index `i` up. -/
abbrev holdsAt (s : State) (i : Nat) (bs : List Byte) : Prop :=
  ∀ k, (h : k < bs.length) → Memory.read s.ibuf (i + k) = some bs[k]

/-- Every index below `n` from `i` up has been written since reset. -/
abbrev writtenAt (s : State) (i n : Nat) : Prop :=
  ∀ k, k < n → (Memory.read s.ibuf (i + k)).isSome

/-- If the byte at `i` is written, it is `b`. -/
def standsAs (s : State) (i : Nat) (b : Byte) : Prop :=
  ∀ v, Memory.read s.ibuf i = some v → v = b

/-- What FRAME_VALID = 1 certifies (10_state.md R24, R42): the frame registers hold a frame that passed the checksum and
lies inside IBUF, and the bytes of IBUF still are that frame's wherever they are written. -/
structure FrameCertified (s : State) : Prop where
  passed   : s.cksum.ckOk = true ∧ s.cksum.ckRx = s.cksum.ckCalc
  isClass  : s.frameInfo.ftClass = classOfFrameType s.frameInfo.ftRaw
  inside   : 5 ≤ s.pos.payloadOff.toNat ∧ s.pos.payloadOff.toNat + s.payloadLen + 1 ≤ s.build.bufCap
  start    : standsAs s (s.pos.payloadOff.toNat - 5) 0xFC#8
  type     : standsAs s (s.pos.payloadOff.toNat - 4) s.frameInfo.ftRaw
  const1   : standsAs s (s.pos.payloadOff.toNat - 3) 0x01#8
  const2   : standsAs s (s.pos.payloadOff.toNat - 2) 0x30#8
  length   : standsAs s (s.pos.payloadOff.toNat - 1) s.frameInfo.plen
  received : standsAs s (s.pos.payloadOff.toNat + s.payloadLen) s.cksum.ckRx
  computed : ∀ p : List Byte, p.length = s.payloadLen → holdsAt s s.pos.payloadOff.toNat p →
    s.cksum.ckCalc = checksum s.frameInfo.ftRaw s.frameInfo.plen p

/-- The result codes a command can end with (10_state.md R31; 60_exceptions.md R406). -/
def resultOfOp (op : BitVec 3) (c : ResultCode) : Bool :=
  match decodeOp op, c with
  | .nop, .ok => true
  | .scan, .ok | .scan, .incomplete | .scan, .windowError => true
  | .parse, .ok | .parse, .incomplete | .parse, .malformed | .parse, .checksumMismatch | .parse, .windowError => true
  | .decode, .ok | .decode, .payloadDecodeError | .decode, .noFrame => true
  | .reserved4, .illegalOp | .reserved5, .illegalOp | .reserved6, .illegalOp | .reserved7, .illegalOp => true
  | _, _ => false

/-- The machine's invariant: a build the spec allows, IBUF in canonical form, BUSY and DONE never together (10_state.md
R24), CK_OK only on equality (R28), and a completed command's RESULT one of its own (R31). -/
structure Inv (s : State) : Prop where
  build  : s.build.wf
  ibuf   : Memory.wf s.build.bufCap s.ibuf
  flags  : ¬(s.status.busy = true ∧ s.status.done = true)
  cksum  : s.cksum.ckOk = true → s.cksum.ckRx = s.cksum.ckCalc
  result : s.status.done = true → resultOfOp s.status.lastOp s.status.result = true

/-- A field whose FIELD_VALID bit is 0 reads as 0 in its register (10_state.md R33). -/
structure AbsentReadZero (r : Record) : Prop where
  power     : r.fieldValid.power = false → r.power = .zero
  mode      : r.fieldValid.mode = false → r.mode = .zero
  temp      : r.fieldValid.temp = false → r.temp = .zero
  fan       : r.fieldValid.fan = false → r.fan = .zero
  vane      : r.fieldValid.vane = false → r.vane = .zero
  wideVane  : r.fieldValid.wideVane = false → r.wideVane = .zero
  isee      : r.fieldValid.isee = false → r.isee = .zero
  compFreq  : r.fieldValid.compFreq = false → r.misc.compFreq = 0#8
  operating : r.fieldValid.operating = false → r.misc.operating = 0#8
  info      : r.fieldValid.info = false → r.payClass.infoRaw = 0#8 ∧ r.payClass.infoClass = .settings
  conn      : r.fieldValid.conn = false → r.misc.connByte = 0#8
  flags     : r.fieldValid.flags = false → r.setFlags = .zero

/-- A decode record without its UNK bits: what ENUM_TABLES cannot change (43_payload_fields.md R233). -/
def eraseUnk (r : Record) : Record :=
  { r with
    power := { r.power with unk := false }
    mode := { r.mode with unk := false }
    fan := { r.fan with unk := false }
    vane := { r.vane with unk := false }
    wideVane := { r.wideVane with unk := false }
    isee := { r.isee with unk := false } }

/-- STATUS after a command that ends with `code` (40_command_interface.md R143): BUSY 0, DONE 1. -/
def completedStatus (s : State) (code : ResultCode) : Status :=
  { s.status with busy := false, done := true, result := code }

/-- An enumeration field as a decoder leaves it: the raw byte and UNK, or 0 when the field is absent (43_payload_fields.md
R230; 10_state.md R33). -/
def enumIf (present : Bool) (table : List Byte) (v : Byte) : EnumValue :=
  if present then ⟨v, decide (v ∉ table)⟩ else .zero

/-- A run of `k` steps goes on: no fault and no refusal (60_exceptions.md R418). -/
def goesOn (k : Nat) (s : State) : Prop := ∃ t, Host.Core.run Sys2Proof.core k s = .next t

/-- The instructions that are DECODE or a row of it. -/
def isDecodeRow (i : Instr) : Bool :=
  match i with
  | .decode => true
  | .decodeSetRequest | .decodeGetInfoRequest | .decodeConnectRequest | .decodeSetResponse
  | .decodeGetInfoResponse | .decodeConnectResponse | .decodeUnknown _ => true
  | .girSettings | .girRoomTemperature | .girTimers | .girStatus | .girUnknown _ => true
  | .nop | .scan | .parse | .reserved4 | .reserved5 | .reserved6 | .reserved7 => false

/-- DECODE's row for a class of frame (44_payload_decode.md R272); `ft` is the operand of the Unknown row. -/
def rowOfClass (c : FrameClass) (ft : Byte) : Instr :=
  match c with
  | .setRequest => .decodeSetRequest
  | .getInfoRequest => .decodeGetInfoRequest
  | .connectRequest => .decodeConnectRequest
  | .setResponse => .decodeSetResponse
  | .getInfoResponse => .decodeGetInfoResponse
  | .connectResponse => .decodeConnectResponse
  | .unknown => .decodeUnknown ft

end Sys2Proof.Machine
end

