-- ==== Sys2Proof/Certificates/Slice0/Obligations.lean ====
section
/-! DEFINITION. The statements about MACFV that the provers prove. Each docstring names the rule or the section of spec/
that the statement formalises. -/

open Sys2Proof Sys2Proof.Machine

/-! ### Encoding -/

/-- Decode and encode agree on every well-formed instruction, with every operand its row admits (30_encoding.md R91, R97;
44_payload_decode.md R272, R285). -/
def Obligations.DecodeOfEncodeIsTheInstruction : Prop :=
  ∀ i : Instr, i.wellFormed = true → decode (formatOf i) (encode i) = .ok i

/-- The other direction: what a byte or a word decodes to is well-formed, of the format it was read in, and encodes to the
byte, or to the word with its ignored bits 31:3 cleared (30_encoding.md R90). -/
def Obligations.EncodeOfDecodeIsTheWord : Prop :=
  (∀ b0 b1 b2 b3 : Byte, ∃ i, decode .cmd [b0, b1, b2, b3] = .ok i ∧ i.wellFormed = true ∧ formatOf i = .cmd ∧
    encode i = [b0 &&& 0x07#8, 0#8, 0#8, 0#8]) ∧
  (∀ b : Byte, ∃ i, decode .frame [b] = .ok i ∧ i.wellFormed = true ∧ formatOf i = .frame ∧ encode i = [b]) ∧
  (∀ b : Byte, ∃ i, decode .gir [b] = .ok i ∧ i.wellFormed = true ∧ formatOf i = .gir ∧ encode i = [b])

/-- Bits 31:3 of a word written to CMD have no effect, on the command it selects or on the machine (30_encoding.md R90,
R117). -/
def Obligations.IgnoredCommandBitsHaveNoEffect : Prop :=
  ∀ w w' : Word, w &&& 0x7#32 = w' &&& 0x7#32 →
    decodeCommand w = decodeCommand w' ∧ ∀ s : State, memWrite s 0x000#11 .four w = memWrite s 0x000#11 .four w'

/-- Words and bytes written out from 30_encoding.md R91, R97 and R98 decode to their rows. -/
def Obligations.WrittenOutWordsDecodeToTheirRows : Prop :=
  decode .cmd [0x00#8, 0x00#8, 0x00#8, 0x00#8] = .ok .nop ∧
  decode .cmd [0x01#8, 0x00#8, 0x00#8, 0x00#8] = .ok .scan ∧
  decode .cmd [0x02#8, 0x00#8, 0x00#8, 0x00#8] = .ok .parse ∧
  decode .cmd [0xFB#8, 0xFF#8, 0xFF#8, 0xFF#8] = .ok .decode ∧
  decode .cmd [0xFF#8, 0xFF#8, 0xFF#8, 0xFF#8] = .ok .reserved7 ∧
  decode .frame [0x41#8] = .ok .decodeSetRequest ∧
  decode .frame [0x43#8] = .ok (.decodeUnknown 0x43#8) ∧
  decode .gir [0x02#8] = .ok .girSettings ∧
  decode .gir [0x04#8] = .ok (.girUnknown 0x04#8) ∧
  decode .cmd [0x02#8] = .error (.wrongWidth .cmd 1)

/-- The classes of the frame-type byte (30_encoding.md R97) and of the InfoType byte (R98). -/
def Obligations.TypeBytesAreClassedByTheTables : Prop :=
  (frameClassCode (classOfFrameType 0x41#8) = 0#3 ∧ frameClassCode (classOfFrameType 0x42#8) = 1#3 ∧
    frameClassCode (classOfFrameType 0x5A#8) = 2#3 ∧ frameClassCode (classOfFrameType 0x61#8) = 3#3 ∧
    frameClassCode (classOfFrameType 0x62#8) = 4#3 ∧ frameClassCode (classOfFrameType 0x7A#8) = 5#3 ∧
    (∀ b : Byte, b ∉ [0x41#8, 0x42#8, 0x5A#8, 0x61#8, 0x62#8, 0x7A#8] → frameClassCode (classOfFrameType b) = 6#3) ∧
    (∀ b : Byte, frameClassCode (classOfFrameType b) ≠ 7#3)) ∧
  (infoClassCode (classOfInfoType 0x02#8) = 0#3 ∧ infoClassCode (classOfInfoType 0x03#8) = 1#3 ∧
    infoClassCode (classOfInfoType 0x04#8) = 2#3 ∧ infoClassCode (classOfInfoType 0x05#8) = 3#3 ∧
    infoClassCode (classOfInfoType 0x06#8) = 4#3 ∧ infoClassCode (classOfInfoType 0x09#8) = 5#3 ∧
    (∀ b : Byte, b ∉ [0x02#8, 0x03#8, 0x04#8, 0x05#8, 0x06#8, 0x09#8] → infoClassCode (classOfInfoType b) = 6#3) ∧
    (∀ b : Byte, infoClassCode (classOfInfoType b) ≠ 7#3))

/-! ### The step -/

/-- A step runs the decoded instruction: while a command is pending, the engine's turn is `exec` of the instruction that the
command word with OP = LAST_OP decodes to, at that state, and nothing is added around it; the turn is the next step when no
event waits (the model's choice, notes/assumptions/2.md) or when it is the first event (40_command_interface.md R143). -/
def Obligations.StepRunsThePendingInstruction : Prop :=
  ∀ (s : State) (b0 b1 b2 b3 : Byte) (i : Instr),
    s.status.busy = true → s.status.lastOp = commandOp (wordOfBytes b0 b1 b2 b3) →
    decode .cmd [b0, b1, b2, b3] = .ok i →
    (s.inputs = [] → step s = exec i s) ∧
    (∀ is, s.inputs = .engine :: is → step s = exec i { s with inputs := is })

/-- Every other event is one step, of the host, of its pseudo-operations or of the reset input, and an idle engine performs
no step (00_scope.md R14; 20_memory.md R66, R67; 60_exceptions.md R417). The list of events, the port's data, the count of
draws and the failure mark are the model's own (notes/assumptions/1.md, 3.md, 10.md). That one step of WAIT is one poll of
STATUS, which ends the WAIT at DONE = 1 and else gives the engine the next turn, and that EXPECT marks a failure, are the
model's choice (30_encoding.md R121; notes/assumptions/11.md). -/
def Obligations.HostEventsAreSteps : Prop :=
  ∀ (s : State) (is : List Input),
    (∀ a n, s.inputs = .read a n :: is →
      step s = .next { s with inputs := is, readData := memRead s a n, draws := s.draws + 1 }) ∧
    (∀ a n v, s.inputs = .write a n v :: is → step s = .next (memWrite { s with inputs := is } a n v)) ∧
    (s.inputs = .reset :: is → step s = .next (applyReset { s with inputs := is })) ∧
    (s.inputs = .wait :: is → step s = .next { s with
      inputs := if s.status.done then is else .engine :: .wait :: is
      readData := regWord s .status
      draws := s.draws + 1 }) ∧
    (∀ a hi lo v, s.inputs = .expect a hi lo v :: is → step s = .next { s with
      inputs := is
      readData := memRead s a .four
      expectFailed := s.expectFailed || decide (((memRead s a .four).extractLsb' lo (hi + 1 - lo)).toNat ≠ v)
      draws := s.draws + 1 }) ∧
    (s.status.busy = false → s.inputs = [] → step s = .next s) ∧
    (s.status.busy = false → s.inputs = .engine :: is → step s = .next { s with inputs := is })

/-- Every run goes on: no step of any state faults or is refused (60_exceptions.md R418, its points "no fault", "no stuck
state" and "no refusal"). -/
def Obligations.EveryRunGoesOn : Prop :=
  ∀ (k : Nat) (s : State), goesOn k s

/-! ### Acceptance and completion -/

/-- accept_command, and a CMD write while BUSY (40_command_interface.md R141). -/
def Obligations.CommandWriteIsAccepted : Prop :=
  ∀ (s : State) (w : Word),
    (s.status.busy = true → memWrite s 0x000#11 .four w = s) ∧
    (s.status.busy = false → memWrite s 0x000#11 .four w =
      { s with status := { s.status with lastOp := w.extractLsb' 0 3, done := false, busy := true } })

/-- Every command, when it answers a next state, ends with BUSY 0, DONE 1 and LAST_OP as it was, and leaves IBUF, the window
registers and the build as they were (40_command_interface.md R143; 20_memory.md R80). -/
def Obligations.EveryCommandEndsCompleted : Prop :=
  ∀ (i : Instr) (s t : State), exec i s = .next t →
    t.status.busy = false ∧ t.status.done = true ∧ t.status.lastOp = s.status.lastOp ∧
    t.ibuf = s.ibuf ∧ t.winBase = s.winBase ∧ t.winLen = s.winLen ∧ t.build = s.build ∧ t.inputs = s.inputs ∧
    t.readData = s.readData ∧ t.expectFailed = s.expectFailed

/-- The registers each command writes; the others keep their values (40_command_interface.md R146). -/
def Obligations.CommandsWriteOnlyTheirRegisters : Prop :=
  ∀ (s t : State),
    (∀ i ∈ [Instr.nop, .reserved4, .reserved5, .reserved6, .reserved7], exec i s = .next t →
      t = { s with status := t.status, draws := t.draws } ∧ t.status.frameValid = s.status.frameValid) ∧
    (exec .scan s = .next t →
      t = { s with status := t.status, draws := t.draws, pos := { s.pos with restOff := t.pos.restOff }, aux := t.aux } ∧
      t.status.frameValid = s.status.frameValid ∧
      (s.build.bufCap < s.winBase.toNat + s.winLen.toNat → t.pos = s.pos ∧ t.aux = s.aux)) ∧
    (exec .parse s = .next t →
      t = { s with status := t.status, draws := t.draws, frameInfo := t.frameInfo, cksum := t.cksum, pos := t.pos,
                   aux := t.aux, record := .zero }) ∧
    (∀ i, isDecodeRow i = true → exec i s = .next t →
      t = { s with status := t.status, draws := t.draws, record := t.record } ∧
      t.status.frameValid = s.status.frameValid ∧ (s.status.frameValid = false → t.record = s.record))

/-- NOP (40_command_interface.md R148): OK and no register but STATUS; and its run from the CMD write. -/
def Obligations.NopCompletesWithOk : Prop :=
  (∀ s : State, exec .nop s = .next { s with status := completedStatus s .ok, draws := s.draws + 1 }) ∧
  (∀ s : State, s.status.busy = false → (runCommand 0#32 s).status =
    { s.status with busy := false, done := true, result := .ok, lastOp := 0#3 }) ∧
  regWord (runCommand 0#32 State.reset) .status = 0x00000002#32

/-- The reserved commands (40_command_interface.md R149): ILLEGAL_OP and no register but STATUS; and a run from the CMD
write. -/
def Obligations.ReservedCommandsCompleteWithIllegalOp : Prop :=
  (∀ (i : Instr) (s : State), i ∈ [Instr.reserved4, .reserved5, .reserved6, .reserved7] →
    exec i s = .next { s with status := completedStatus s .illegalOp, draws := s.draws + 1 }) ∧
  (∀ (w : Word) (s : State), s.status.busy = false → w.getLsbD 2 = true → (runCommand w s).status =
    { s.status with busy := false, done := true, result := .illegalOp, lastOp := w.extractLsb' 0 3 }) ∧
  regWord (runCommand 5#32 State.reset) .status = 0x00000572#32

/-! ### SCAN -/

/-- SCAN's three outcomes, with everything it writes (42_frame_parser.md R190, R191). -/
def Obligations.ScanStopsAtTheFirstMarker : Prop :=
  ∀ s : State,
    let base := s.winBase.toNat
    let n := s.winLen.toNat
    (base + n ≤ s.build.bufCap → ∀ k, k < n → s.window k = 0xFC#8 → (∀ j, j < k → s.window j ≠ 0xFC#8) →
      exec .scan s = .next { s with
        status := completedStatus s .ok
        pos := { s.pos with restOff := BitVec.ofNat 16 (base + k) }
        aux := ⟨0#16, BitVec.ofNat 16 k⟩
        draws := s.draws + 1 }) ∧
    (base + n ≤ s.build.bufCap → (∀ k, k < n → s.window k ≠ 0xFC#8) →
      exec .scan s = .next { s with
        status := completedStatus s .incomplete
        pos := { s.pos with restOff := BitVec.ofNat 16 (base + n) }
        aux := ⟨1#16, BitVec.ofNat 16 n⟩
        draws := s.draws + 1 }) ∧
    (s.build.bufCap < base + n →
      exec .scan s = .next { s with status := completedStatus s .windowError, draws := s.draws + 1 })

/-! ### PARSE -/

/-- P_WIN: an illegal window (42_frame_parser.md R196, R201, R202). -/
def Obligations.ParseOfIllegalWindow : Prop :=
  ∀ s : State, s.build.bufCap < s.winBase.toNat + s.winLen.toNat →
    exec .parse s = .next { s with
      status := { completedStatus s .windowError with frameValid := false }
      frameInfo := .zero
      cksum := .zero
      pos := { s.pos with payloadOff := 0#16 }
      record := .zero
      draws := s.draws + 1 }

/-- P_AVAIL: a window of fewer than 6 bytes is INCOMPLETE whatever its bytes, with the hint of R200 (42_frame_parser.md
R197, R200). -/
def Obligations.ParseOfShortWindow : Prop :=
  ∀ s : State,
    let base := s.winBase.toNat
    let n := s.winLen.toNat
    base + n ≤ s.build.bufCap → n < 6 →
    exec .parse s = .next { s with
      status := { completedStatus s .incomplete with frameValid := false }
      frameInfo := .zero
      cksum := .zero
      pos := ⟨s.winBase, 0#16⟩
      aux := ⟨BitVec.ofNat 16 (if n = 5 then 1 + (s.window 4).toNat else 6 - n), 0#16⟩
      record := .zero
      draws := s.draws + 1 }

/-- P_HDR: a wrong fixed byte is MALFORMED, and one byte is skipped (42_frame_parser.md R198, R201). -/
def Obligations.ParseOfMalformedHeader : Prop :=
  ∀ s : State,
    let base := s.winBase.toNat
    base + s.winLen.toNat ≤ s.build.bufCap → 6 ≤ s.winLen.toNat →
    (s.window 0 ≠ 0xFC#8 ∨ s.window 2 ≠ 0x01#8 ∨ s.window 3 ≠ 0x30#8) →
    exec .parse s = .next { s with
      status := { completedStatus s .malformed with frameValid := false }
      frameInfo := .zero
      cksum := .zero
      pos := ⟨BitVec.ofNat 16 (base + 1), 0#16⟩
      aux := ⟨0#16, 0#16⟩
      record := .zero
      draws := s.draws + 1 }

/-- P_LEN: a good header whose frame is not wholly in the window is INCOMPLETE (42_frame_parser.md R199, R200). -/
def Obligations.ParseOfTruncatedFrame : Prop :=
  ∀ s : State,
    let n := s.winLen.toNat
    let len := (s.window 4).toNat
    s.winBase.toNat + n ≤ s.build.bufCap → 6 ≤ n →
    s.window 0 = 0xFC#8 → s.window 2 = 0x01#8 → s.window 3 = 0x30#8 → n < 6 + len →
    exec .parse s = .next { s with
      status := { completedStatus s .incomplete with frameValid := false }
      frameInfo := .zero
      cksum := .zero
      pos := ⟨s.winBase, 0#16⟩
      aux := ⟨BitVec.ofNat 16 (6 + len - n), 0#16⟩
      record := .zero
      draws := s.draws + 1 }

/-- P_CHECK: a whole frame is reported, and is valid exactly when its checksum byte equals CHECKSUM (42_frame_parser.md R196,
R201, R202; 41_checksum.md R172, R175). -/
def Obligations.ParseReportsAndVerifiesTheFrame : Prop :=
  ∀ s : State,
    let base := s.winBase.toNat
    let len := (s.window 4).toNat
    let rx := s.window (5 + len)
    let good := checksum (s.window 1) (s.window 4) ((List.range len).map fun k => s.window (5 + k))
    base + s.winLen.toNat ≤ s.build.bufCap → 6 + len ≤ s.winLen.toNat →
    s.window 0 = 0xFC#8 → s.window 2 = 0x01#8 → s.window 3 = 0x30#8 →
    exec .parse s = .next { s with
      status := { completedStatus s (if rx = good then .ok else .checksumMismatch) with frameValid := decide (rx = good) }
      frameInfo := ⟨s.window 1, classOfFrameType (s.window 1), s.window 4⟩
      cksum := ⟨rx, good, decide (rx = good)⟩
      pos := ⟨BitVec.ofNat 16 (base + 6 + len), BitVec.ofNat 16 (base + 5)⟩
      aux := ⟨0#16, 0#16⟩
      record := .zero
      draws := s.draws + 1 }

/-- Round trip and prefix: PARSE accepts every frame built by 30_encoding.md R93 with the checksum of R170, whatever
follows it in the window, and REST_OFF is just after it (42_frame_parser.md R204 (a), (b)). -/
def Obligations.ParseAcceptsEveryBuiltFrame : Prop :=
  ∀ (s : State) (ft : Byte) (p rest : List Byte),
    s.build.wf → p.length ≤ 255 → s.winLen.toNat = 6 + p.length + rest.length →
    s.winBase.toNat + s.winLen.toNat ≤ s.build.bufCap →
    holdsAt s s.winBase.toNat (frameBytes ft p ++ rest) →
    ∃ t, exec .parse s = .next t ∧ t.status.result = .ok ∧ t.status.frameValid = true ∧
      t.frameInfo = ⟨ft, classOfFrameType ft, BitVec.ofNat 8 p.length⟩ ∧ t.cksum.ckOk = true ∧
      t.pos.restOff.toNat = s.winBase.toNat + 6 + p.length ∧ t.pos.payloadOff.toNat = s.winBase.toNat + 5 ∧
      (rest = [] → t.pos.restOff.toNat = s.winBase.toNat + s.winLen.toNat)

/-- Truncation: the first m < 6 + L bytes of a built frame are INCOMPLETE with the number of missing bytes, or, before the
length byte is there, the number missing from the minimum (42_frame_parser.md R204 (c)). -/
def Obligations.ParseOfAnyTruncationIsIncomplete : Prop :=
  ∀ (s : State) (ft : Byte) (p : List Byte) (m : Nat),
    s.build.wf → p.length ≤ 255 → m < 6 + p.length → s.winLen.toNat = m →
    s.winBase.toNat + m ≤ s.build.bufCap → holdsAt s s.winBase.toNat ((frameBytes ft p).take m) →
    ∃ t, exec .parse s = .next t ∧ t.status.result = .incomplete ∧ t.status.frameValid = false ∧
      t.aux.needed.toNat = (if 5 ≤ m then 6 + p.length - m else 6 - m) ∧ t.pos.restOff = s.winBase

/-- SCAN and PARSE read window bytes only, DECODE and its rows payload bytes only: other bytes of IBUF, written or not,
change no result (20_memory.md R79; 42_frame_parser.md R204 (d); 44_payload_decode.md R271). -/
def Obligations.CommandsReadOnlyWindowOrPayload : Prop :=
  ∀ (s t : State) (m : List Host.Cell) (i : Instr), exec i s = .next t →
    ((i = .scan ∨ i = .parse) →
      (∀ k, k < s.winLen.toNat →
        Memory.read m (s.winBase.toNat + k) = Memory.read s.ibuf (s.winBase.toNat + k)) →
      exec i { s with ibuf := m } = .next { t with ibuf := m }) ∧
    (isDecodeRow i = true →
      (∀ k, k < s.payloadLen →
        Memory.read m (s.pos.payloadOff.toNat + k) = Memory.read s.ibuf (s.pos.payloadOff.toNat + k)) →
      exec i { s with ibuf := m } = .next { t with ibuf := m })

/-! ### The checksum -/

/-- CHECKSUM as arithmetic: 0xFC minus the sum modulo 256, with wrap-around; and the 32-bit sum of a payload of at most 255
bytes never wraps (41_checksum.md R170). -/
def Obligations.ChecksumIsTheModularSum : Prop :=
  ∀ (ft len : Byte) (p : List Byte),
    let sum := 0xFC + ft.toNat + 0x01 + 0x30 + len.toNat + (p.map BitVec.toNat).sum
    (checksum ft len p).toNat = (0xFC + 256 - sum % 256) % 256 ∧
    (p.length ≤ 255 → (checksumSum ft len p).toNat = sum ∧ sum ≤ 65836)

/-- The equivalent forms (41_checksum.md R171): CHECKSUM is 0xFC minus the sum of every frame byte before it, and the
checksum byte passes exactly when the sum of every frame byte, itself included, is 0xFC modulo 256. -/
def Obligations.ChecksumPassesWhenAllBytesSumToMarker : Prop :=
  ∀ (ft rx : Byte) (p : List Byte), p.length ≤ 255 →
    let len : Byte := BitVec.ofNat 8 p.length
    let before := [0xFC#8, ft, 0x01#8, 0x30#8, len] ++ p
    checksum ft len p = 0xFC#8 - BitVec.ofNat 8 (before.map BitVec.toNat).sum ∧
    (rx = checksum ft len p ↔ ((before ++ [rx]).map BitVec.toNat).sum % 256 = 0xFC)

/-- A change of the type byte alone, of one payload byte alone, or of the length byte alone changes the checksum
(41_checksum.md R173 (a), R174). -/
def Obligations.ChecksumDetectsAnySingleChange : Prop :=
  ∀ (ft len : Byte) (p : List Byte),
    (∀ ft', ft' ≠ ft → checksum ft' len p ≠ checksum ft len p) ∧
    (∀ len', len' ≠ len → checksum ft len' p ≠ checksum ft len p) ∧
    (∀ (k : Nat) (b : Byte) (h : k < p.length), b ≠ p[k] → checksum ft len (p.set k b) ≠ checksum ft len p)

/-! ### Field functions -/

/-- Bit-field extraction and set_enum: flag, field3_lo and bit3 as arithmetic (43_payload_fields.md R234), and the valid bit,
the raw byte and UNK of each enumeration, no other field of the record changing (R230, R231). -/
def Obligations.FieldExtractionAndEnumerations : Prop :=
  (∀ (x : Byte) (k : Nat), k < 8 → flag x k = x.toNat.testBit k) ∧
  (∀ x : Byte, (field3Lo x).toNat = x.toNat % 8 ∧ (bit3 x).toNat = x.toNat / 8 % 2) ∧
  (∀ (t : Config.EnumTables) (v : Byte) (r : Record),
    setEnum t .power v r = { r with fieldValid := { r.fieldValid with power := true }, power := ⟨v, decide (v ∉ t.power)⟩ } ∧
    setEnum t .mode v r = { r with fieldValid := { r.fieldValid with mode := true }, mode := ⟨v, decide (v ∉ t.mode)⟩ } ∧
    setEnum t .fan v r = { r with fieldValid := { r.fieldValid with fan := true }, fan := ⟨v, decide (v ∉ t.fan)⟩ } ∧
    setEnum t .vane v r = { r with fieldValid := { r.fieldValid with vane := true }, vane := ⟨v, decide (v ∉ t.vane)⟩ } ∧
    setEnum t .wideVane v r =
      { r with fieldValid := { r.fieldValid with wideVane := true }, wideVane := ⟨v, decide (v ∉ t.wideVane)⟩ } ∧
    setEnum t .isee v r = { r with fieldValid := { r.fieldValid with isee := true }, isee := ⟨v, decide (v ∉ t.isee)⟩ })

/-- The temperature codec: TEMP_TENTHS as a signed 16-bit number is the exact formula of its kind, in its range
(43_payload_fields.md R240, R241, R242, R243), and nothing else of the record changes but TEMP_V and TEMP. -/
def Obligations.TemperatureTenthsAreExact : Prop :=
  ∀ (v : Byte) (r : Record),
    (∀ k : TempKind,
      setTemp k v r = { r with fieldValid := { r.fieldValid with temp := true }, temp := ⟨v, k, (setTemp k v r).temp.tenths⟩ }) ∧
    ((setTemp .half v r).temp.tenths.toInt = ((v.toNat : Int) - 128) * 5) ∧
    ((setTemp .setpoint v r).temp.tenths.toInt = (31 - (v.toNat : Int)) * 10) ∧
    ((setTemp .room v r).temp.tenths.toInt = ((v.toNat : Int) + 10) * 10) ∧
    (∀ k : TempKind, -2240 ≤ (setTemp k v r).temp.tenths.toInt ∧ (setTemp k v r).temp.tenths.toInt ≤ 2650)

/-! ### DECODE -/

/-- Without a valid frame DECODE, and each of its rows, ends with NO_FRAME and writes nothing but STATUS
(44_payload_decode.md R270). That a row checks FRAME_VALID when it is run on its own is the model's choice
(notes/assumptions/7.md). -/
def Obligations.DecodeWithoutFrameIsNoFrame : Prop :=
  ∀ (i : Instr) (s : State), isDecodeRow i = true → s.status.frameValid = false →
    exec i s = .next { s with status := completedStatus s .noFrame, draws := s.draws + 1 }

/-- With a valid frame DECODE completes as the row of FT_CLASS, with OK or PAYLOAD_DECODE_ERROR and PCLASS = FT_CLASS; an
error leaves every decode result register 0 except PCLASS; a SetResponse, a GetInfoResponse and an Unknown frame always end
with OK (44_payload_decode.md R270, R272, R282, R284, R291). -/
def Obligations.DecodeRunsTheRowOfItsClass : Prop :=
  ∀ s : State, s.status.frameValid = true →
    ∃ t, exec .decode s = .next t ∧ exec (rowOfClass s.frameInfo.ftClass s.frameInfo.ftRaw) s = .next t ∧
      t = { s with status := completedStatus s t.status.result, record := t.record, draws := s.draws + 1 } ∧
      (t.status.result = .ok ∨ t.status.result = .payloadDecodeError) ∧
      t.record.payClass.pclass = s.frameInfo.ftClass ∧
      (t.status.result = .payloadDecodeError →
        t.record = { Record.zero with payClass := { PayClass.zero with pclass := s.frameInfo.ftClass } }) ∧
      (s.frameInfo.ftClass ∈ [FrameClass.setResponse, .getInfoResponse, .unknown] → t.status.result = .ok)

/-- SetRequest (44_payload_decode.md R275, R276, R277): OK with every flagged field at its fixed index and every other field
0; PAYLOAD_DECODE_ERROR when L < 3, when the constant differs, or when a flagged field's index is at or past L. -/
def Obligations.SetRequestDecodesItsFlaggedFields : Prop :=
  ∀ s : State, s.status.frameValid = true →
    let len := s.payloadLen
    let p := s.payload
    let f1 := p 1
    let f2 := p 2
    let t := s.build.tables
    let missing :=
      (f1.getLsbD 0 = true ∧ len ≤ 3) ∨ (f1.getLsbD 1 = true ∧ len ≤ 4) ∨ (f1.getLsbD 2 = true ∧ len ≤ 14) ∨
      (f1.getLsbD 3 = true ∧ len ≤ 6) ∨ (f1.getLsbD 4 = true ∧ len ≤ 7) ∨ (f2.getLsbD 0 = true ∧ len ≤ 13)
    (3 ≤ len → p 0 = 0x01#8 → ¬missing →
      exec .decodeSetRequest s = .next { s with
        status := completedStatus s .ok
        draws := s.draws + 1
        record :=
          { Record.zero with
            payClass := { PayClass.zero with pclass := s.frameInfo.ftClass }
            fieldValid := { FieldValid.zero with
              power := f1.getLsbD 0
              mode := f1.getLsbD 1
              temp := f1.getLsbD 2
              fan := f1.getLsbD 3
              vane := f1.getLsbD 4
              wideVane := f2.getLsbD 0
              flags := true }
            power := enumIf (f1.getLsbD 0) t.power (p 3)
            mode := enumIf (f1.getLsbD 1) t.mode (p 4)
            temp := if f1.getLsbD 2 then ⟨p 14, .half, BitVec.ofInt 16 ((((p 14).toNat : Int) - 128) * 5)⟩ else .zero
            fan := enumIf (f1.getLsbD 3) t.fan (p 6)
            vane := enumIf (f1.getLsbD 4) t.vane (p 7)
            wideVane := enumIf (f2.getLsbD 0) t.wideVane (p 13)
            setFlags := ⟨f1, f2⟩ } }) ∧
    (len < 3 ∨ p 0 ≠ 0x01#8 ∨ missing →
      exec .decodeSetRequest s = .next { s with
        status := completedStatus s .payloadDecodeError
        draws := s.draws + 1
        record := { Record.zero with payClass := { PayClass.zero with pclass := s.frameInfo.ftClass } } })

/-- GetInfoRequest (44_payload_decode.md R278). -/
def Obligations.GetInfoRequestRecordsItsInfoType : Prop :=
  ∀ s : State, s.status.frameValid = true →
    (1 ≤ s.payloadLen → exec .decodeGetInfoRequest s = .next { s with
      status := completedStatus s .ok
      draws := s.draws + 1
      record := { Record.zero with
        payClass := ⟨s.frameInfo.ftClass, .settings, s.payload 0, classOfInfoType (s.payload 0)⟩
        fieldValid := { FieldValid.zero with info := true } } }) ∧
    (s.payloadLen = 0 → exec .decodeGetInfoRequest s = .next { s with
      status := completedStatus s .payloadDecodeError
      draws := s.draws + 1
      record := { Record.zero with payClass := { PayClass.zero with pclass := s.frameInfo.ftClass } } })

/-- ConnectRequest (44_payload_decode.md R280): OK exactly when the payload begins CA 01. -/
def Obligations.ConnectRequestChecksItsMagic : Prop :=
  ∀ s : State, s.status.frameValid = true →
    (2 ≤ s.payloadLen → s.payload 0 = 0xCA#8 → s.payload 1 = 0x01#8 → exec .decodeConnectRequest s = .next { s with
      status := completedStatus s .ok
      draws := s.draws + 1
      record := { Record.zero with payClass := { PayClass.zero with pclass := s.frameInfo.ftClass } } }) ∧
    (s.payloadLen < 2 ∨ s.payload 0 ≠ 0xCA#8 ∨ s.payload 1 ≠ 0x01#8 → exec .decodeConnectRequest s = .next { s with
      status := completedStatus s .payloadDecodeError
      draws := s.draws + 1
      record := { Record.zero with payClass := { PayClass.zero with pclass := s.frameInfo.ftClass } } })

/-- SetResponse and the Unknown type read nothing and always end with OK (44_payload_decode.md R282, R284). -/
def Obligations.OpaquePayloadsDecodeToTheirClass : Prop :=
  ∀ (i : Instr) (s : State) (ft : Byte), i = .decodeSetResponse ∨ i = .decodeUnknown ft → s.status.frameValid = true →
    exec i s = .next { s with
      status := completedStatus s .ok
      draws := s.draws + 1
      record := { Record.zero with payClass := { PayClass.zero with pclass := s.frameInfo.ftClass } } }

/-- ConnectResponse (44_payload_decode.md R283). -/
def Obligations.ConnectResponseKeepsItsByte : Prop :=
  ∀ s : State, s.status.frameValid = true →
    (1 ≤ s.payloadLen → exec .decodeConnectResponse s = .next { s with
      status := completedStatus s .ok
      draws := s.draws + 1
      record := { Record.zero with
        payClass := { PayClass.zero with pclass := s.frameInfo.ftClass }
        misc := ⟨0#8, 0#8, s.payload 0⟩
        fieldValid := { FieldValid.zero with conn := true } } }) ∧
    (s.payloadLen = 0 → exec .decodeConnectResponse s = .next { s with
      status := completedStatus s .payloadDecodeError
      draws := s.draws + 1
      record := { Record.zero with payClass := { PayClass.zero with pclass := s.frameInfo.ftClass } } })

/-- GetInfoResponse is decided by its tag alone and always ends with OK (44_payload_decode.md R285, R290, R291). -/
def Obligations.GetInfoResponseRunsTheRowOfItsTag : Prop :=
  ∀ s : State, s.status.frameValid = true →
    (s.payloadLen = 0 → exec .decodeGetInfoResponse s = .next { s with
      status := completedStatus s .ok
      draws := s.draws + 1
      record := { Record.zero with payClass := ⟨s.frameInfo.ftClass, .unknown, 0#8, .settings⟩ } }) ∧
    (1 ≤ s.payloadLen → ∃ t, exec .decodeGetInfoResponse s = .next t ∧ exec (decodeTag (s.payload 0)) s = .next t ∧
      t.status = completedStatus s .ok ∧ t.record.payClass.infoRaw = s.payload 0 ∧
      t.record.payClass.infoClass = classOfInfoType (s.payload 0) ∧ t.record.fieldValid.info = true)

/-- Settings (44_payload_decode.md R286): FIELD_VALID is 0x27F, and each field comes from its index of 30_encoding.md R106,
R107. -/
def Obligations.SettingsVariantRecordsItsFields : Prop :=
  ∀ s : State, s.status.frameValid = true → 12 ≤ s.payloadLen →
    let p := s.payload
    let t := s.build.tables
    exec .girSettings s = .next { s with
      status := completedStatus s .ok
      draws := s.draws + 1
      record :=
        { Record.zero with
          payClass := ⟨s.frameInfo.ftClass, .settings, p 0, classOfInfoType (p 0)⟩
          fieldValid := { FieldValid.zero with
            power := true
            mode := true
            temp := true
            fan := true
            vane := true
            wideVane := true
            isee := true
            info := true }
          power := enumIf true t.power (p 3)
          mode := enumIf true t.mode (p 4 &&& 0x07#8)
          fan := enumIf true t.fan (p 6)
          vane := enumIf true t.vane (p 7)
          wideVane := enumIf true t.wideVane (p 10)
          isee := enumIf true t.isee ((p 4 >>> 3) &&& 0x01#8)
          temp :=
            if p 11 = 0#8 then ⟨p 5, .setpoint, BitVec.ofInt 16 ((31 - ((p 5).toNat : Int)) * 10)⟩
            else ⟨p 11, .half, BitVec.ofInt 16 ((((p 11).toNat : Int) - 128) * 5)⟩ } }

/-- RoomTemperature (44_payload_decode.md R287): FIELD_VALID is 0x204. -/
def Obligations.RoomTemperatureVariantRecordsItsField : Prop :=
  ∀ s : State, s.status.frameValid = true → 7 ≤ s.payloadLen →
    let p := s.payload
    exec .girRoomTemperature s = .next { s with
      status := completedStatus s .ok
      draws := s.draws + 1
      record :=
        { Record.zero with
          payClass := ⟨s.frameInfo.ftClass, .roomTemperature, p 0, classOfInfoType (p 0)⟩
          fieldValid := { FieldValid.zero with temp := true, info := true }
          temp :=
            if p 6 = 0#8 then ⟨p 3, .room, BitVec.ofInt 16 ((((p 3).toNat : Int) + 10) * 10)⟩
            else ⟨p 6, .half, BitVec.ofInt 16 ((((p 6).toNat : Int) - 128) * 5)⟩ } }

/-- Status (44_payload_decode.md R289): FIELD_VALID is 0x380. -/
def Obligations.StatusVariantRecordsItsBytes : Prop :=
  ∀ s : State, s.status.frameValid = true → 5 ≤ s.payloadLen →
    exec .girStatus s = .next { s with
      status := completedStatus s .ok
      draws := s.draws + 1
      record :=
        { Record.zero with
          payClass := ⟨s.frameInfo.ftClass, .status, s.payload 0, classOfInfoType (s.payload 0)⟩
          fieldValid := { FieldValid.zero with compFreq := true, operating := true, info := true }
          misc := ⟨s.payload 3, s.payload 4, 0#8⟩ } }

/-- Timers, any other tag, and a variant whose payload is too short record the tag and GIR_VAR 3, with result OK
(44_payload_decode.md R288, R290; a row run on its own: notes/assumptions/7.md). -/
def Obligations.OtherTagsAndShortPayloadsAreUnknown : Prop :=
  ∀ (i : Instr) (s : State) (tag : Byte), s.status.frameValid = true → 1 ≤ s.payloadLen →
    (i = .girTimers ∨ i = .girUnknown tag ∨ (i = .girSettings ∧ s.payloadLen < 12) ∨
      (i = .girRoomTemperature ∧ s.payloadLen < 7) ∨ (i = .girStatus ∧ s.payloadLen < 5)) →
    exec i s = .next { s with
      status := completedStatus s .ok
      draws := s.draws + 1
      record := { Record.zero with
        payClass := ⟨s.frameInfo.ftClass, .unknown, s.payload 0, classOfInfoType (s.payload 0)⟩
        fieldValid := { FieldValid.zero with info := true } } }

/-- Two DECODEs with nothing between them end with the same RESULT and the same decode result registers, when the payload's
bytes have been written (44_payload_decode.md R274; an unwritten byte is a new draw at each read, 20_memory.md R81,
notes/assumptions/3.md). -/
def Obligations.DecodeIsIdempotent : Prop :=
  ∀ s t : State, writtenAt s s.pos.payloadOff.toNat s.payloadLen → exec .decode s = .next t →
    ∃ u, exec .decode t = .next u ∧ u.record = t.record ∧ u.status = t.status

/-- Another choice of ENUM_TABLES changes the UNK bits and nothing else, whatever the command (43_payload_fields.md R233). -/
def Obligations.EnumTablesChangeOnlyUnkBits : Prop :=
  ∀ (i : Instr) (s t : State) (tables : Config.EnumTables), exec i s = .next t →
    ∃ u, exec i { s with build := { s.build with tables := tables } } = .next u ∧
      { u with record := eraseUnk u.record, build := t.build } = { t with record := eraseUnk t.record }

/-- A command's results are a function of IBUF, the window registers, FRAME_VALID and the frame registers, and of the build:
two states that agree on these get the same results, whatever their histories (40_command_interface.md R145; 00_scope.md
R14). Of IBUF, the bytes that SCAN and PARSE may read, those of the window, and that DECODE may read, those of the payload,
must read the same. A written byte does whatever the draws are. An unwritten one does when the draws are equal: that it has
one value for a command, given by the number of the draw, is the model's choice (notes/assumptions/3.md, 4.md). -/
def Obligations.ResultsDependOnlyOnTheInputs : Prop :=
  ∀ (i : Instr) (s s' t : State),
    ((i = .scan ∨ i = .parse) → ∀ k, k < s.winLen.toNat → s'.window k = s.window k) →
    (isDecodeRow i = true → ∀ k, k < s.payloadLen → s'.payload k = s.payload k) →
    s'.winBase = s.winBase → s'.winLen = s.winLen → s'.frameInfo = s.frameInfo →
    s'.pos.payloadOff = s.pos.payloadOff → s'.status.frameValid = s.status.frameValid → s'.build = s.build →
    exec i s = .next t →
    ∃ t', exec i s' = .next t' ∧ t'.status.result = t.status.result ∧ t'.status.frameValid = t.status.frameValid ∧
      (i = .parse → t'.frameInfo = t.frameInfo ∧ t'.cksum = t.cksum ∧ t'.record = t.record ∧
        t'.pos.payloadOff = t.pos.payloadOff) ∧
      ((i = .scan ∨ i = .parse) → t.status.result ≠ .windowError →
        t'.pos.restOff = t.pos.restOff ∧ t'.aux = t.aux) ∧
      (isDecodeRow i = true → s.status.frameValid = true → t'.record = t.record)

/-! ### The host port -/

/-- What a host writes to IBUF it reads back, in the same lanes, and lanes outside the access read 0 (20_memory.md R65). -/
def Obligations.IbufReadsBackWhatWasWritten : Prop :=
  ∀ (s : State) (a : Offset) (n : AccessSize) (v : Word),
    s.status.busy = false → 0x400 ≤ a.toNat → a.toNat + sizeBytes n ≤ 0x400 + s.build.bufCap →
    a.toNat % sizeBytes n = 0 →
    (memRead (memWrite s a n v) a n).toNat = v.toNat % 2 ^ (8 * sizeBytes n)

/-- A legal IBUF write of an idle block stores its lanes in its bytes, leaves every other byte of IBUF and every register as
they were, and clears FRAME_VALID (20_memory.md R67; 10_state.md R42). -/
def Obligations.IbufWriteStoresItsLanesOnly : Prop :=
  ∀ (s : State) (a : Offset) (n : AccessSize) (v : Word),
    s.status.busy = false → 0x400 ≤ a.toNat → a.toNat + sizeBytes n ≤ 0x400 + s.build.bufCap →
    a.toNat % sizeBytes n = 0 →
    let t := memWrite s a n v
    t = { s with ibuf := t.ibuf, status := { s.status with frameValid := false } } ∧
    (∀ k, k < sizeBytes n → Memory.read t.ibuf (a.toNat - 0x400 + k) = some (v.extractLsb' (8 * k) 8)) ∧
    (∀ j, j < a.toNat - 0x400 ∨ a.toNat - 0x400 + sizeBytes n ≤ j → Memory.read t.ibuf j = Memory.read s.ibuf j)

/-- While BUSY = 1 every host write is ignored, the CMD write among them (20_memory.md R67; 40_command_interface.md R142;
70_reset_and_hazards.md R460, R461). -/
def Obligations.WritesWhileBusyAreIgnored : Prop :=
  ∀ (s : State) (a : Offset) (n : AccessSize) (v : Word), s.status.busy = true → memWrite s a n v = s

/-- An illegal access reads 0 and writes nothing: a register access that is not 4 bytes at a multiple of 4, an IBUF access
that is misaligned or crosses the end of IBUF (20_memory.md R64, by the shapes of R63). So does an access to a reserved
offset (R62, by the map of R61). -/
def Obligations.IllegalAndReservedAccessesHaveNoEffect : Prop :=
  ∀ (s : State) (a : Offset) (n : AccessSize) (v : Word),
    ((a.toNat < 0x40 ∧ (n ≠ .four ∨ a.toNat % 4 ≠ 0)) ∨
      (0x400 ≤ a.toNat ∧ a.toNat < 0x400 + s.build.bufCap ∧
        (a.toNat % sizeBytes n ≠ 0 ∨ 0x400 + s.build.bufCap < a.toNat + sizeBytes n)) ∨
      (0x40 ≤ a.toNat ∧ a.toNat < 0x400) ∨ 0x400 + s.build.bufCap ≤ a.toNat) →
    memRead s a n = 0#32 ∧ memWrite s a n v = s

/-- The registers at the port, by the offsets of 10_state.md R22: a 4-byte read at a register's offset gives its word;
WIN_BASE and WIN_LEN take the low 16 bits written to them, and a read there gives them back (R25, R26); a write at the offset
of any other register but CMD is ignored. -/
def Obligations.RegistersAtThePort : Prop :=
  ∀ (s : State) (v : Word),
    (memRead s 0x000#11 .four = 0#32 ∧ memRead s 0x004#11 .four = regWord s .status ∧
      memRead s 0x008#11 .four = regWord s .winBase ∧ memRead s 0x00C#11 .four = regWord s .winLen ∧
      memRead s 0x010#11 .four = regWord s .frameInfo ∧ memRead s 0x014#11 .four = regWord s .cksum ∧
      memRead s 0x018#11 .four = regWord s .pos ∧ memRead s 0x01C#11 .four = regWord s .aux ∧
      memRead s 0x020#11 .four = regWord s .payClass ∧ memRead s 0x024#11 .four = regWord s .fieldValid ∧
      memRead s 0x028#11 .four = regWord s .enumA ∧ memRead s 0x02C#11 .four = regWord s .enumB ∧
      memRead s 0x030#11 .four = regWord s .enumC ∧ memRead s 0x034#11 .four = regWord s .temp ∧
      memRead s 0x038#11 .four = regWord s .misc ∧ memRead s 0x03C#11 .four = regWord s .setFlags) ∧
    (s.status.busy = false →
      memWrite s 0x008#11 .four v = { s with winBase := v.setWidth 16 } ∧
      memWrite s 0x00C#11 .four v = { s with winLen := v.setWidth 16 } ∧
      memRead (memWrite s 0x008#11 .four v) 0x008#11 .four = v &&& 0xFFFF#32 ∧
      memRead (memWrite s 0x00C#11 .four v) 0x00C#11 .four = v &&& 0xFFFF#32 ∧
      memRead (memWrite s 0x008#11 .four v) 0x00C#11 .four = memRead s 0x00C#11 .four ∧
      memRead (memWrite s 0x00C#11 .four v) 0x008#11 .four = memRead s 0x008#11 .four) ∧
    (∀ a ∈ [0x004#11, 0x010#11, 0x014#11, 0x018#11, 0x01C#11, 0x020#11, 0x024#11, 0x028#11, 0x02C#11, 0x030#11, 0x034#11,
        0x038#11, 0x03C#11], memWrite s a .four v = s)

/-- Every field stands at its bits of 10_state.md R24 to R30 and R32 to R39, reserved bits read 0 (R22), and CMD reads 0
(R23); and the codes of the typed fields are the numbers of R27, R31, R32 and R37. -/
def Obligations.RegisterFieldsStandAtTheirBits : Prop :=
  ([ResultCode.ok, .incomplete, .malformed, .checksumMismatch, .payloadDecodeError, .noFrame, .windowError, .illegalOp].map
      resultBits = [0#4, 1#4, 2#4, 3#4, 4#4, 5#4, 6#4, 7#4] ∧
    [FrameClass.setRequest, .getInfoRequest, .connectRequest, .setResponse, .getInfoResponse, .connectResponse, .unknown].map
      frameClassCode = [0#3, 1#3, 2#3, 3#3, 4#3, 5#3, 6#3] ∧
    [InfoClass.settings, .roomTemp, .type4, .timers, .status, .maybeStandby, .unknown].map infoClassCode =
      [0#3, 1#3, 2#3, 3#3, 4#3, 5#3, 6#3] ∧
    [GirVariant.settings, .roomTemperature, .status, .unknown].map girVariantCode = [0#2, 1#2, 2#2, 3#2] ∧
    [TempKind.half, .setpoint, .room].map tempKindCode = [0#2, 1#2, 2#2]) ∧
  (∀ s : State,
      (regWord s .cmd = 0#32) ∧
      ((regWord s .winBase).extractLsb' 0 16 = s.winBase ∧ (regWord s .winBase).extractLsb' 16 16 = 0#16 ∧
        (regWord s .winLen).extractLsb' 0 16 = s.winLen ∧ (regWord s .winLen).extractLsb' 16 16 = 0#16) ∧
      ((regWord s .status).getLsbD 0 = s.status.busy ∧ (regWord s .status).getLsbD 1 = s.status.done ∧
        (regWord s .status).getLsbD 2 = s.status.frameValid ∧ (regWord s .status).getLsbD 3 = false ∧
        (regWord s .status).extractLsb' 4 4 = resultBits s.status.result ∧
        (regWord s .status).extractLsb' 8 3 = s.status.lastOp ∧ (regWord s .status).extractLsb' 11 21 = 0#21) ∧
      ((regWord s .frameInfo).extractLsb' 0 8 = s.frameInfo.ftRaw ∧
        (regWord s .frameInfo).extractLsb' 8 3 = frameClassCode s.frameInfo.ftClass ∧
        (regWord s .frameInfo).extractLsb' 11 5 = 0#5 ∧ (regWord s .frameInfo).extractLsb' 16 8 = s.frameInfo.plen ∧
        (regWord s .frameInfo).extractLsb' 24 8 = 0#8) ∧
      ((regWord s .cksum).extractLsb' 0 8 = s.cksum.ckRx ∧ (regWord s .cksum).extractLsb' 8 8 = s.cksum.ckCalc ∧
        (regWord s .cksum).getLsbD 16 = s.cksum.ckOk ∧ (regWord s .cksum).extractLsb' 17 15 = 0#15) ∧
      ((regWord s .pos).extractLsb' 0 16 = s.pos.restOff ∧ (regWord s .pos).extractLsb' 16 16 = s.pos.payloadOff) ∧
      ((regWord s .aux).extractLsb' 0 16 = s.aux.needed ∧ (regWord s .aux).extractLsb' 16 16 = s.aux.junkLen) ∧
      ((regWord s .payClass).extractLsb' 0 3 = frameClassCode s.record.payClass.pclass ∧
        (regWord s .payClass).getLsbD 3 = false ∧
        (regWord s .payClass).extractLsb' 4 2 = girVariantCode s.record.payClass.girVar ∧
        (regWord s .payClass).extractLsb' 6 2 = 0#2 ∧
        (regWord s .payClass).extractLsb' 8 8 = s.record.payClass.infoRaw ∧
        (regWord s .payClass).extractLsb' 16 3 = infoClassCode s.record.payClass.infoClass ∧
        (regWord s .payClass).extractLsb' 19 13 = 0#13) ∧
      (let w := regWord s .fieldValid
       let v := s.record.fieldValid
       w.getLsbD 0 = v.power ∧ w.getLsbD 1 = v.mode ∧ w.getLsbD 2 = v.temp ∧ w.getLsbD 3 = v.fan ∧ w.getLsbD 4 = v.vane ∧
       w.getLsbD 5 = v.wideVane ∧ w.getLsbD 6 = v.isee ∧ w.getLsbD 7 = v.compFreq ∧ w.getLsbD 8 = v.operating ∧
       w.getLsbD 9 = v.info ∧ w.getLsbD 10 = v.conn ∧ w.getLsbD 11 = v.flags ∧ w.extractLsb' 12 20 = 0#20) ∧
      (∀ rfg ∈ [(Reg.enumA, s.record.power, s.record.mode), (Reg.enumB, s.record.fan, s.record.vane),
          (Reg.enumC, s.record.wideVane, s.record.isee)],
        let w := regWord s rfg.1
        w.extractLsb' 0 8 = rfg.2.1.raw ∧ w.getLsbD 8 = rfg.2.1.unk ∧ w.extractLsb' 9 7 = 0#7 ∧
        w.extractLsb' 16 8 = rfg.2.2.raw ∧ w.getLsbD 24 = rfg.2.2.unk ∧ w.extractLsb' 25 7 = 0#7) ∧
      ((regWord s .temp).extractLsb' 0 8 = s.record.temp.raw ∧
        (regWord s .temp).extractLsb' 8 2 = tempKindCode s.record.temp.kind ∧
        (regWord s .temp).extractLsb' 10 6 = 0#6 ∧ (regWord s .temp).extractLsb' 16 16 = s.record.temp.tenths) ∧
      ((regWord s .misc).extractLsb' 0 8 = s.record.misc.compFreq ∧
        (regWord s .misc).extractLsb' 8 8 = s.record.misc.operating ∧
        (regWord s .misc).extractLsb' 16 8 = s.record.misc.connByte ∧ (regWord s .misc).extractLsb' 24 8 = 0#8) ∧
      ((regWord s .setFlags).extractLsb' 0 8 = s.record.setFlags.flags1 ∧
        (regWord s .setFlags).extractLsb' 8 8 = s.record.setFlags.flags2 ∧
        (regWord s .setFlags).extractLsb' 16 16 = 0#16))

/-! ### Reset, and rules over all steps -/

/-- Reset: in the state after reset, and after the reset input's one step whatever was pending, every register reads 0, the
engine is idle and no byte of IBUF counts as written; the build is the same (70_reset_and_hazards.md R440, R441; 10_state.md
R45). -/
def Obligations.ResetClearsEveryRegister : Prop :=
  ((∀ r : Reg, regWord State.reset r = 0#32) ∧ engineState State.reset = .idle ∧ State.reset.ibuf = []) ∧
  (∀ (s : State) (is : List Input), s.inputs = .reset :: is →
    ∃ t, step s = .next t ∧ (∀ r : Reg, regWord t r = 0#32) ∧ engineState t = .idle ∧ t.ibuf = [] ∧
      t.build = s.build ∧ t.inputs = is)

/-- FRAME_VALID rises only when a PARSE completes with OK, and falls only at the completion of a PARSE, at an accepted write
to IBUF, and at reset (10_state.md R42). -/
def Obligations.FrameValidChangesOnlyAsListed : Prop :=
  ∀ s t : State, step s = .next t →
    (s.status.frameValid = false → t.status.frameValid = true →
      engineMoves s = true ∧ s.status.lastOp = 2#3 ∧ t.status.result = .ok) ∧
    (s.status.frameValid = true → t.status.frameValid = false →
      (engineMoves s = true ∧ s.status.lastOp = 2#3) ∨
      (∃ a n v is, s.inputs = .write a n v :: is ∧ s.status.busy = false ∧ legal s a.toNat n = true ∧
        inIbuf s a.toNat = true) ∨
      (∃ is, s.inputs = .reset :: is))

/-- Every accepted command completes, or reset discards it: with `n` events waiting, BUSY is 0 after at most `n + 1` steps;
when no reset waits, that is a completion, with DONE = 1 and LAST_OP the pending command; and until then the pending command
stays the same one (40_command_interface.md R144, R142; 70_reset_and_hazards.md R440). The bound is the model's
(notes/assumptions/2.md, 11.md). -/
def Obligations.AcceptedCommandsComplete : Prop :=
  ∀ s : State, s.status.busy = true →
    (∃ k t, k ≤ s.inputs.length + 1 ∧ Host.Core.run Sys2Proof.core k s = .next t ∧ t.status.busy = false) ∧
    (.reset ∉ s.inputs →
      ∃ k t, k ≤ s.inputs.length + 1 ∧ Host.Core.run Sys2Proof.core k s = .next t ∧ t.status.busy = false ∧
        t.status.done = true ∧ t.status.lastOp = s.status.lastOp) ∧
    (∀ t, step s = .next t → t.status.busy = true → t.status.lastOp = s.status.lastOp)

/-- Once a command has been accepted, the pair BUSY = 0, DONE = 0 does not come back but by reset
(70_reset_and_hazards.md R442). -/
def Obligations.OnlyResetLeavesNoCommand : Prop :=
  ∀ s t : State, step s = .next t → (s.status.busy = true ∨ s.status.done = true) →
    (∀ is, s.inputs ≠ .reset :: is) → t.status.busy = true ∨ t.status.done = true

/-- A WAIT with no command pending and DONE = 0 never ends (70_reset_and_hazards.md R442; 60_exceptions.md R418, its last
point; the two steps of a poll are the model's, notes/assumptions/11.md). -/
def Obligations.WaitWithNothingPendingNeverEnds : Prop :=
  ∀ (s : State) (is : List Input) (k : Nat),
    s.status.busy = false → s.status.done = false → s.inputs = .wait :: is →
    ∃ t, Host.Core.run Sys2Proof.core (2 * k) s = .next t ∧ t.inputs = .wait :: is ∧ t.status = s.status

/-! ### Invariants of every step -/

/-- The state after reset (10_state.md R45), with the default build and the model's own fields at their values
(notes/assumptions/1.md, 4.md, 5.md, 6.md, 10.md, 11.md), meets the invariants. -/
def Obligations.ResetMeetsTheInvariants : Prop :=
  Inv State.reset ∧ (State.reset.status.frameValid = true → FrameCertified State.reset) ∧
    AbsentReadZero State.reset.record

/-- Every step keeps the invariant: IBUF stays in canonical form below BUF_CAP, the build stays a legal one, BUSY and DONE
are never both 1 (10_state.md R24), CK_OK means equality (R28), and a completed command's RESULT is one of its own
(R31; 60_exceptions.md R406). -/
def Obligations.EveryStepKeepsTheInvariant : Prop :=
  ∀ s t : State, Inv s → step s = .next t → Inv t

/-- Every step keeps what FRAME_VALID = 1 certifies: a checksum-valid frame whose IBUF bytes are unchanged
(10_state.md R24, R42). -/
def Obligations.EveryStepKeepsFramesCertified : Prop :=
  ∀ s t : State, Inv s → (s.status.frameValid = true → FrameCertified s) → step s = .next t →
    t.status.frameValid = true → FrameCertified t

/-- Every step keeps: a field whose FIELD_VALID bit is 0 reads as 0 (10_state.md R33). -/
def Obligations.EveryStepKeepsAbsentFieldsZero : Prop :=
  ∀ s t : State, AbsentReadZero s.record → step s = .next t → AbsentReadZero t.record

/-! ### The resynchronisation loop -/

/-- Progress of a single command: a PARSE that ends with OK, CHECKSUM_MISMATCH or MALFORMED advances REST_OFF past WIN_BASE,
and a SCAN that ends with OK leaves it at a byte 0xFC of the window (42_frame_parser.md R212). -/
def Obligations.ParseAdvancesAndScanFindsMarker : Prop :=
  ∀ s t : State, s.build.wf →
    (exec .parse s = .next t → t.status.result ∈ [ResultCode.ok, .checksumMismatch, .malformed] →
      s.winBase.toNat < t.pos.restOff.toNat ∧ t.pos.restOff.toNat ≤ s.winBase.toNat + s.winLen.toNat) ∧
    (exec .scan s = .next t → t.status.result = .ok →
      s.winBase.toNat ≤ t.pos.restOff.toNat ∧ t.pos.restOff.toNat < s.winBase.toNat + s.winLen.toNat ∧
      s.ibufByte t.pos.restOff.toNat = 0xFC#8)

/-- The loop reaches a state that waits for more bytes: over a buffer of N bytes, within 2N + 1 turns, whatever the bytes,
and never by a host error (42_frame_parser.md R211, R212; the turn count is the model's, notes/assumptions/20.md). -/
def Obligations.ResyncLoopReachesAWait : Prop :=
  ∀ (s : State) (l : HostLoop), s.build.wf → s.status.busy = false → l.pos ≤ l.fin → l.fin ≤ s.build.bufCap →
    ∃ l' s', loopRun (2 * (l.fin - l.pos) + 1) l s = .waits l' s' ∧ l.pos ≤ l'.pos ∧ l'.pos ≤ l.fin
end

