-- ==== Sys2Proof/Laws/Memory.lean ====
section
/-! SUPPORT. The laws of IBUF as a list of cells: a read after a write, every other byte unchanged, and the canonical form
kept by every memory operation. -/

namespace Sys2Proof.Machine

/-- A read of the byte just written gives it. -/
@[simp] theorem Memory.read_write_same (m : List Host.Cell) (a : Nat) (b : Byte) :
    Memory.read (Memory.write m a b) a = some b := by
  induction m with
  | nil => simp [Memory.write, Memory.read]
  | cons c m ih =>
    obtain ⟨k, v⟩ := c
    simp only [Memory.write]
    split
    · simp [Memory.read]
    · split
      · simp [Memory.read]
      · simp [Memory.read, *]

/-- A write leaves every other byte alone. -/
theorem Memory.read_write_other (m : List Host.Cell) {a j : Nat} (b : Byte) (h : j ≠ a) :
    Memory.read (Memory.write m a b) j = Memory.read m j := by
  induction m with
  | nil => simp [Memory.write, Memory.read, h]
  | cons c m ih =>
    obtain ⟨k, v⟩ := c
    simp only [Memory.write]
    split
    · simp [Memory.read, h]
    · split
      · next e => subst e; simp [Memory.read, h]
      · simp [Memory.read, ih]

/-- The cells of a write are the new one and cells that were there. -/
theorem Memory.mem_write {m : List Host.Cell} {a : Nat} {b : Byte} {c : Host.Cell} (h : c ∈ Memory.write m a b) :
    c = (a, b) ∨ c ∈ m := by
  induction m with
  | nil => simpa [Memory.write] using h
  | cons d m ih =>
    obtain ⟨k, v⟩ := d
    simp only [Memory.write] at h
    split at h
    · simpa using h
    · split at h
      · rcases List.mem_cons.mp h with h | h
        · exact .inl h
        · exact .inr (List.mem_cons_of_mem _ h)
      · rcases List.mem_cons.mp h with h | h
        · exact .inr (h ▸ List.mem_cons_self ..)
        · exact (ih h).imp id (List.mem_cons_of_mem _)

/-- A write keeps the canonical form. -/
theorem Memory.write_wf {cap : Nat} {m : List Host.Cell} {a : Nat} (b : Byte) (ha : a < cap) (h : Memory.wf cap m) :
    Memory.wf cap (Memory.write m a b) := by
  refine ⟨?_, fun c hc => ?_⟩
  · obtain ⟨hp, -⟩ := h
    induction m with
    | nil => simp [Memory.write]
    | cons d m ih =>
      obtain ⟨k, v⟩ := d
      obtain ⟨hk, hm⟩ := List.pairwise_cons.mp hp
      simp only [Memory.write]
      split
      · next hlt =>
        refine List.pairwise_cons.mpr ⟨fun c hc => ?_, hp⟩
        rcases List.mem_cons.mp hc with rfl | hc
        · exact hlt
        · exact Nat.lt_trans hlt (hk c hc)
      · split
        · next e => subst e; exact List.pairwise_cons.mpr ⟨hk, hm⟩
        · next h1 h2 =>
          refine List.pairwise_cons.mpr ⟨fun c hc => ?_, ih hm⟩
          rcases Memory.mem_write hc with rfl | hc
          · simp only; omega
          · exact hk c hc
  · rcases Memory.mem_write hc with rfl | hc
    · exact ha
    · exact h.2 c hc

/-- Writing bytes one after the other keeps the canonical form. -/
theorem Memory.writeAll_wf {cap : Nat} (bs : List Byte) {m : List Host.Cell} {a : Nat} (ha : a + bs.length ≤ cap)
    (h : Memory.wf cap m) : Memory.wf cap (Memory.writeAll m a bs) := by
  induction bs generalizing m a with
  | nil => exact h
  | cons b bs ih =>
    simp only [List.length_cons] at ha
    exact ih (by omega) (Memory.write_wf b (by omega) h)

/-- Writing bytes leaves every byte outside them alone. -/
theorem Memory.read_writeAll_other (bs : List Byte) (m : List Host.Cell) {a j : Nat}
    (h : j < a ∨ a + bs.length ≤ j) : Memory.read (Memory.writeAll m a bs) j = Memory.read m j := by
  induction bs generalizing m a with
  | nil => rfl
  | cons b bs ih =>
    simp only [List.length_cons] at h
    rw [Memory.writeAll, ih _ (by omega), Memory.read_write_other _ _ (by omega)]

/-- Written bytes read back. -/
theorem Memory.read_writeAll_inside (bs : List Byte) (m : List Host.Cell) {a k : Nat} (h : k < bs.length) :
    Memory.read (Memory.writeAll m a bs) (a + k) = some bs[k] := by
  induction bs generalizing m a k with
  | nil => simp at h
  | cons b bs ih =>
    cases k with
    | zero => rw [Memory.writeAll, Memory.read_writeAll_other _ _ (by omega)]; simp
    | succ k =>
      have := ih (Memory.write m a b) (a := a + 1) (k := k) (by simpa using h)
      rw [Memory.writeAll, show a + (k + 1) = a + 1 + k by omega, this]
      simp

/-- The state after reset has its IBUF in canonical form. -/
theorem reset_ibuf_wf : Memory.wf State.reset.build.bufCap State.reset.ibuf := by decide

end Sys2Proof.Machine
end

