-- ==== Sys2Proof/Laws/State.lean ====
section
/-! SUPPORT. One lemma per field and update of the state, so that no proof unfolds a record update. -/

namespace Sys2Proof.Machine

@[simp] theorem clearDecode_status (s : State) : (s.clearDecode).status = s.status := rfl
@[simp] theorem clearDecode_winBase (s : State) : (s.clearDecode).winBase = s.winBase := rfl
@[simp] theorem clearDecode_winLen (s : State) : (s.clearDecode).winLen = s.winLen := rfl
@[simp] theorem clearDecode_frameInfo (s : State) : (s.clearDecode).frameInfo = s.frameInfo := rfl
@[simp] theorem clearDecode_cksum (s : State) : (s.clearDecode).cksum = s.cksum := rfl
@[simp] theorem clearDecode_pos (s : State) : (s.clearDecode).pos = s.pos := rfl
@[simp] theorem clearDecode_aux (s : State) : (s.clearDecode).aux = s.aux := rfl
@[simp] theorem clearDecode_record (s : State) : (s.clearDecode).record = .zero := rfl
@[simp] theorem clearDecode_ibuf (s : State) : (s.clearDecode).ibuf = s.ibuf := rfl
@[simp] theorem clearDecode_build (s : State) : (s.clearDecode).build = s.build := rfl
@[simp] theorem clearDecode_inputs (s : State) : (s.clearDecode).inputs = s.inputs := rfl
@[simp] theorem clearDecode_readData (s : State) : (s.clearDecode).readData = s.readData := rfl
@[simp] theorem clearDecode_expectFailed (s : State) : (s.clearDecode).expectFailed = s.expectFailed := rfl
@[simp] theorem clearDecode_draws (s : State) : (s.clearDecode).draws = s.draws := rfl

@[simp] theorem clearFrame_status (s : State) : (s.clearFrame).status = s.status := rfl
@[simp] theorem clearFrame_winBase (s : State) : (s.clearFrame).winBase = s.winBase := rfl
@[simp] theorem clearFrame_winLen (s : State) : (s.clearFrame).winLen = s.winLen := rfl
@[simp] theorem clearFrame_frameInfo (s : State) : (s.clearFrame).frameInfo = .zero := rfl
@[simp] theorem clearFrame_cksum (s : State) : (s.clearFrame).cksum = .zero := rfl
@[simp] theorem clearFrame_pos (s : State) : (s.clearFrame).pos = { s.pos with payloadOff := 0#16 } := rfl
@[simp] theorem clearFrame_aux (s : State) : (s.clearFrame).aux = s.aux := rfl
@[simp] theorem clearFrame_record (s : State) : (s.clearFrame).record = s.record := rfl
@[simp] theorem clearFrame_ibuf (s : State) : (s.clearFrame).ibuf = s.ibuf := rfl
@[simp] theorem clearFrame_build (s : State) : (s.clearFrame).build = s.build := rfl
@[simp] theorem clearFrame_inputs (s : State) : (s.clearFrame).inputs = s.inputs := rfl
@[simp] theorem clearFrame_readData (s : State) : (s.clearFrame).readData = s.readData := rfl
@[simp] theorem clearFrame_expectFailed (s : State) : (s.clearFrame).expectFailed = s.expectFailed := rfl
@[simp] theorem clearFrame_draws (s : State) : (s.clearFrame).draws = s.draws := rfl

@[simp] theorem setFrameValid_status (v : Bool) (s : State) :
    (s.setFrameValid v).status = { s.status with frameValid := v } := rfl
@[simp] theorem setFrameValid_winBase (v : Bool) (s : State) : (s.setFrameValid v).winBase = s.winBase := rfl
@[simp] theorem setFrameValid_winLen (v : Bool) (s : State) : (s.setFrameValid v).winLen = s.winLen := rfl
@[simp] theorem setFrameValid_frameInfo (v : Bool) (s : State) : (s.setFrameValid v).frameInfo = s.frameInfo := rfl
@[simp] theorem setFrameValid_cksum (v : Bool) (s : State) : (s.setFrameValid v).cksum = s.cksum := rfl
@[simp] theorem setFrameValid_pos (v : Bool) (s : State) : (s.setFrameValid v).pos = s.pos := rfl
@[simp] theorem setFrameValid_aux (v : Bool) (s : State) : (s.setFrameValid v).aux = s.aux := rfl
@[simp] theorem setFrameValid_record (v : Bool) (s : State) : (s.setFrameValid v).record = s.record := rfl
@[simp] theorem setFrameValid_ibuf (v : Bool) (s : State) : (s.setFrameValid v).ibuf = s.ibuf := rfl
@[simp] theorem setFrameValid_build (v : Bool) (s : State) : (s.setFrameValid v).build = s.build := rfl
@[simp] theorem setFrameValid_inputs (v : Bool) (s : State) : (s.setFrameValid v).inputs = s.inputs := rfl
@[simp] theorem setFrameValid_readData (v : Bool) (s : State) : (s.setFrameValid v).readData = s.readData := rfl
@[simp] theorem setFrameValid_expectFailed (v : Bool) (s : State) : (s.setFrameValid v).expectFailed = s.expectFailed := rfl
@[simp] theorem setFrameValid_draws (v : Bool) (s : State) : (s.setFrameValid v).draws = s.draws := rfl

@[simp] theorem accept_status (op : BitVec 3) (s : State) :
    (s.accept op).status = { s.status with lastOp := op, done := false, busy := true } := rfl
@[simp] theorem accept_winBase (op : BitVec 3) (s : State) : (s.accept op).winBase = s.winBase := rfl
@[simp] theorem accept_winLen (op : BitVec 3) (s : State) : (s.accept op).winLen = s.winLen := rfl
@[simp] theorem accept_frameInfo (op : BitVec 3) (s : State) : (s.accept op).frameInfo = s.frameInfo := rfl
@[simp] theorem accept_cksum (op : BitVec 3) (s : State) : (s.accept op).cksum = s.cksum := rfl
@[simp] theorem accept_pos (op : BitVec 3) (s : State) : (s.accept op).pos = s.pos := rfl
@[simp] theorem accept_aux (op : BitVec 3) (s : State) : (s.accept op).aux = s.aux := rfl
@[simp] theorem accept_record (op : BitVec 3) (s : State) : (s.accept op).record = s.record := rfl
@[simp] theorem accept_ibuf (op : BitVec 3) (s : State) : (s.accept op).ibuf = s.ibuf := rfl
@[simp] theorem accept_build (op : BitVec 3) (s : State) : (s.accept op).build = s.build := rfl
@[simp] theorem accept_inputs (op : BitVec 3) (s : State) : (s.accept op).inputs = s.inputs := rfl
@[simp] theorem accept_readData (op : BitVec 3) (s : State) : (s.accept op).readData = s.readData := rfl
@[simp] theorem accept_expectFailed (op : BitVec 3) (s : State) : (s.accept op).expectFailed = s.expectFailed := rfl
@[simp] theorem accept_draws (op : BitVec 3) (s : State) : (s.accept op).draws = s.draws := rfl

@[simp] theorem finish_status (c : ResultCode) (s : State) :
    (finish c s).status = { s.status with result := c, busy := false, done := true } := rfl
@[simp] theorem finish_winBase (c : ResultCode) (s : State) : (finish c s).winBase = s.winBase := rfl
@[simp] theorem finish_winLen (c : ResultCode) (s : State) : (finish c s).winLen = s.winLen := rfl
@[simp] theorem finish_frameInfo (c : ResultCode) (s : State) : (finish c s).frameInfo = s.frameInfo := rfl
@[simp] theorem finish_cksum (c : ResultCode) (s : State) : (finish c s).cksum = s.cksum := rfl
@[simp] theorem finish_pos (c : ResultCode) (s : State) : (finish c s).pos = s.pos := rfl
@[simp] theorem finish_aux (c : ResultCode) (s : State) : (finish c s).aux = s.aux := rfl
@[simp] theorem finish_record (c : ResultCode) (s : State) : (finish c s).record = s.record := rfl
@[simp] theorem finish_ibuf (c : ResultCode) (s : State) : (finish c s).ibuf = s.ibuf := rfl
@[simp] theorem finish_build (c : ResultCode) (s : State) : (finish c s).build = s.build := rfl
@[simp] theorem finish_inputs (c : ResultCode) (s : State) : (finish c s).inputs = s.inputs := rfl
@[simp] theorem finish_readData (c : ResultCode) (s : State) : (finish c s).readData = s.readData := rfl
@[simp] theorem finish_expectFailed (c : ResultCode) (s : State) : (finish c s).expectFailed = s.expectFailed := rfl
@[simp] theorem finish_draws (c : ResultCode) (s : State) : (finish c s).draws = s.draws + 1 := rfl

@[simp] theorem setPosition_status (a b c : Nat) (s : State) : (s.setPosition a b c).status = s.status := rfl
@[simp] theorem setPosition_winBase (a b c : Nat) (s : State) : (s.setPosition a b c).winBase = s.winBase := rfl
@[simp] theorem setPosition_winLen (a b c : Nat) (s : State) : (s.setPosition a b c).winLen = s.winLen := rfl
@[simp] theorem setPosition_frameInfo (a b c : Nat) (s : State) : (s.setPosition a b c).frameInfo = s.frameInfo := rfl
@[simp] theorem setPosition_cksum (a b c : Nat) (s : State) : (s.setPosition a b c).cksum = s.cksum := rfl
@[simp] theorem setPosition_pos (a b c : Nat) (s : State) :
    (s.setPosition a b c).pos = { s.pos with restOff := BitVec.ofNat 16 a } := rfl
@[simp] theorem setPosition_aux (a b c : Nat) (s : State) :
    (s.setPosition a b c).aux = ⟨BitVec.ofNat 16 b, BitVec.ofNat 16 c⟩ := rfl
@[simp] theorem setPosition_record (a b c : Nat) (s : State) : (s.setPosition a b c).record = s.record := rfl
@[simp] theorem setPosition_ibuf (a b c : Nat) (s : State) : (s.setPosition a b c).ibuf = s.ibuf := rfl
@[simp] theorem setPosition_build (a b c : Nat) (s : State) : (s.setPosition a b c).build = s.build := rfl
@[simp] theorem setPosition_inputs (a b c : Nat) (s : State) : (s.setPosition a b c).inputs = s.inputs := rfl
@[simp] theorem setPosition_readData (a b c : Nat) (s : State) : (s.setPosition a b c).readData = s.readData := rfl
@[simp] theorem setPosition_expectFailed (a b c : Nat) (s : State) : (s.setPosition a b c).expectFailed = s.expectFailed := rfl
@[simp] theorem setPosition_draws (a b c : Nat) (s : State) : (s.setPosition a b c).draws = s.draws := rfl

@[simp] theorem parseStart_status (s : State) : (parseStart s).status = { s.status with frameValid := false } := rfl
@[simp] theorem parseStart_winBase (s : State) : (parseStart s).winBase = s.winBase := rfl
@[simp] theorem parseStart_winLen (s : State) : (parseStart s).winLen = s.winLen := rfl
@[simp] theorem parseStart_frameInfo (s : State) : (parseStart s).frameInfo = s.frameInfo := rfl
@[simp] theorem parseStart_cksum (s : State) : (parseStart s).cksum = s.cksum := rfl
@[simp] theorem parseStart_pos (s : State) : (parseStart s).pos = s.pos := rfl
@[simp] theorem parseStart_aux (s : State) : (parseStart s).aux = s.aux := rfl
@[simp] theorem parseStart_record (s : State) : (parseStart s).record = .zero := rfl
@[simp] theorem parseStart_ibuf (s : State) : (parseStart s).ibuf = s.ibuf := rfl
@[simp] theorem parseStart_build (s : State) : (parseStart s).build = s.build := rfl
@[simp] theorem parseStart_inputs (s : State) : (parseStart s).inputs = s.inputs := rfl
@[simp] theorem parseStart_readData (s : State) : (parseStart s).readData = s.readData := rfl
@[simp] theorem parseStart_expectFailed (s : State) : (parseStart s).expectFailed = s.expectFailed := rfl
@[simp] theorem parseStart_draws (s : State) : (parseStart s).draws = s.draws := rfl

@[simp] theorem hostRead_status (s : State) (a : Offset) (n : AccessSize) : (hostRead s a n).status = s.status := rfl
@[simp] theorem hostRead_winBase (s : State) (a : Offset) (n : AccessSize) : (hostRead s a n).winBase = s.winBase := rfl
@[simp] theorem hostRead_winLen (s : State) (a : Offset) (n : AccessSize) : (hostRead s a n).winLen = s.winLen := rfl
@[simp] theorem hostRead_frameInfo (s : State) (a : Offset) (n : AccessSize) :
    (hostRead s a n).frameInfo = s.frameInfo := rfl
@[simp] theorem hostRead_cksum (s : State) (a : Offset) (n : AccessSize) : (hostRead s a n).cksum = s.cksum := rfl
@[simp] theorem hostRead_pos (s : State) (a : Offset) (n : AccessSize) : (hostRead s a n).pos = s.pos := rfl
@[simp] theorem hostRead_aux (s : State) (a : Offset) (n : AccessSize) : (hostRead s a n).aux = s.aux := rfl
@[simp] theorem hostRead_record (s : State) (a : Offset) (n : AccessSize) : (hostRead s a n).record = s.record := rfl
@[simp] theorem hostRead_ibuf (s : State) (a : Offset) (n : AccessSize) : (hostRead s a n).ibuf = s.ibuf := rfl
@[simp] theorem hostRead_build (s : State) (a : Offset) (n : AccessSize) : (hostRead s a n).build = s.build := rfl
@[simp] theorem hostRead_inputs (s : State) (a : Offset) (n : AccessSize) : (hostRead s a n).inputs = s.inputs := rfl
@[simp] theorem hostRead_readData (s : State) (a : Offset) (n : AccessSize) :
    (hostRead s a n).readData = memRead s a n := rfl
@[simp] theorem hostRead_expectFailed (s : State) (a : Offset) (n : AccessSize) :
    (hostRead s a n).expectFailed = s.expectFailed := rfl
@[simp] theorem hostRead_draws (s : State) (a : Offset) (n : AccessSize) : (hostRead s a n).draws = s.draws + 1 := rfl

@[simp] theorem applyReset_status (s : State) : (applyReset s).status = .zero := rfl
@[simp] theorem applyReset_winBase (s : State) : (applyReset s).winBase = 0#16 := rfl
@[simp] theorem applyReset_winLen (s : State) : (applyReset s).winLen = 0#16 := rfl
@[simp] theorem applyReset_frameInfo (s : State) : (applyReset s).frameInfo = .zero := rfl
@[simp] theorem applyReset_cksum (s : State) : (applyReset s).cksum = .zero := rfl
@[simp] theorem applyReset_pos (s : State) : (applyReset s).pos = .zero := rfl
@[simp] theorem applyReset_aux (s : State) : (applyReset s).aux = .zero := rfl
@[simp] theorem applyReset_record (s : State) : (applyReset s).record = .zero := rfl
@[simp] theorem applyReset_ibuf (s : State) : (applyReset s).ibuf = [] := rfl
@[simp] theorem applyReset_build (s : State) : (applyReset s).build = s.build := rfl
@[simp] theorem applyReset_inputs (s : State) : (applyReset s).inputs = s.inputs := rfl
@[simp] theorem applyReset_readData (s : State) : (applyReset s).readData = s.readData := rfl
@[simp] theorem applyReset_expectFailed (s : State) : (applyReset s).expectFailed = s.expectFailed := rfl
@[simp] theorem applyReset_draws (s : State) : (applyReset s).draws = s.draws := rfl

end Sys2Proof.Machine
end

