-- ==== Sys2Proof/Laws/Ops.lean ====
section
/-! SUPPORT. One lemma per shared operation that says once everything it can do. -/

namespace Sys2Proof.Machine

/-- IBUF[i] is the byte written there, if one was. -/
theorem ibufByte_of_read {s : State} {i : Nat} {b : Byte} (h : Memory.read s.ibuf i = some b) : s.ibufByte i = b := by
  simp [State.ibufByte, h]

/-- What IBUF[i] reads as depends on the byte there and on the draw alone. -/
theorem ibufByte_congr {s t : State} {i : Nat} (h : Memory.read s.ibuf i = Memory.read t.ibuf i)
    (d : s.draws = t.draws) : s.ibufByte i = t.ibufByte i := by
  simp [State.ibufByte, h, d]

/-- The bounded read inside the payload, and DecodeFault outside it. -/
theorem rd_eq (s : State) (i : Nat) : s.rd i = if i < s.payloadLen then some (s.payload i) else none := rfl

/-- A decoder run has three ends: no frame, the decoder's record, or an error that leaves PCLASS only. -/
theorem runDecoder_cases (decoder : State → Option Record) (s : State) :
    (s.status.frameValid = false ∧ runDecoder decoder s = finish .noFrame s) ∨
    (s.status.frameValid = true ∧
      ((∃ r, decoder s = some r ∧ runDecoder decoder s = finish .ok { s with record := r }) ∨
        (decoder s = none ∧ runDecoder decoder s = finish .payloadDecodeError { s with record := startRecord s }))) := by
  unfold runDecoder
  cases s.status.frameValid <;> cases h : decoder s <;> simp

/-- A gated field is absent, or present and read, or present and beyond the payload. -/
theorem gated_cases (present : Bool) (v : Option Byte) (put : Byte → Record → Record) (r : Record) :
    (present = false ∧ gated present v put r = some r) ∨
    (∃ b, present = true ∧ v = some b ∧ gated present v put r = some (put b r)) ∨
    (present = true ∧ v = none ∧ gated present v put r = none) := by
  cases present <;> cases v <;> simp [gated]

/-- SCAN's search: the first marker, with no marker before it, or no marker in the window. -/
theorem firstMarker_cases (s : State) :
    (∃ k, firstMarker s = some k ∧ k < s.winLen.toNat ∧ s.window k = 0xFC#8 ∧ ∀ j, j < k → s.window j ≠ 0xFC#8) ∨
    (firstMarker s = none ∧ ∀ k, k < s.winLen.toNat → s.window k ≠ 0xFC#8) := by
  cases h : firstMarker s with
  | none => exact .inr ⟨rfl, by simpa [firstMarker] using h⟩
  | some k =>
    rw [firstMarker, List.find?_range_eq_some] at h
    exact .inl ⟨k, rfl, by simpa using h.2.1, by simpa using h.1, by simpa using h.2.2⟩

/-- PARSE's chain of states, from P_WIN on, ends in one of five ways (42_frame_parser.md R205). -/
theorem pWin_cases (s : State) :
    (s.windowLegal = false ∧ pWin s = finish .windowError s.clearFrame) ∨
    (s.windowLegal = true ∧ ∃ t, t = { s with aux := { s.aux with junkLen := 0#16 } } ∧
      ((s.winLen.toNat < 6 ∧
          pWin s = finish .incomplete (t.clearFrame.setPosition s.winBase.toNat (neededShort t) 0)) ∨
        (6 ≤ s.winLen.toNat ∧ headerMismatch t = true ∧
          pWin s = finish .malformed (t.clearFrame.setPosition (s.winBase.toNat + 1) 0 0)) ∨
        (6 ≤ s.winLen.toNat ∧ headerMismatch t = false ∧ s.winLen.toNat < 6 + (t.window 4).toNat ∧
          pWin s = finish .incomplete
            (t.clearFrame.setPosition s.winBase.toNat (6 + (t.window 4).toNat - s.winLen.toNat) 0)) ∨
        (headerMismatch t = false ∧ 6 + (t.window 4).toNat ≤ s.winLen.toNat ∧ pWin s = pCheck t))) := by
  unfold pWin
  cases s.windowLegal with
  | false => exact .inl ⟨rfl, rfl⟩
  | true =>
    refine .inr ⟨rfl, _, rfl, ?_⟩
    simp only [if_true, pAvail]
    split
    · exact .inl ⟨‹_›, rfl⟩
    · next h6 =>
      simp only [pHdr]
      split
      · exact .inr (.inl ⟨by omega, ‹_›, rfl⟩)
      · next hm =>
        simp only [pLen]
        split
        · exact .inr (.inr (.inl ⟨by omega, by simpa using hm, ‹_›, rfl⟩))
        · next hl => exact .inr (.inr (.inr ⟨by simpa using hm, Nat.le_of_not_lt hl, rfl⟩))

/-- The frame that P_CHECK reports, before STATUS (42_frame_parser.md R196). -/
def reported (s : State) : State :=
  { s with
    frameInfo := ⟨s.window 1, classOfFrameType (s.window 1), s.window 4⟩
    cksum := verify (s.window (5 + (s.window 4).toNat)) (s.window 1) (s.window 4)
      (windowPayload s (s.window 4).toNat)
    pos := ⟨BitVec.ofNat 16 (s.winBase.toNat + 6 + (s.window 4).toNat), BitVec.ofNat 16 (s.winBase.toNat + 5)⟩
    aux := { s.aux with needed := 0#16 } }

/-- P_CHECK reports the frame and ends with OK or CHECKSUM_MISMATCH (42_frame_parser.md R199). -/
theorem pCheck_cases (s : State) :
    ((reported s).cksum.ckOk = true ∧ pCheck s = finish .ok ((reported s).setFrameValid true)) ∨
    ((reported s).cksum.ckOk = false ∧ pCheck s = finish .checksumMismatch (reported s)) := by
  cases h : (reported s).cksum.ckOk with
  | true => exact .inl ⟨rfl, if_pos h⟩
  | false => exact .inr ⟨rfl, if_neg (by rw [Bool.not_eq_true]; exact h)⟩

/-- A host write is ignored, or it starts a command, stores into IBUF, or sets a window register (20_memory.md R67). -/
theorem memWrite_cases (s : State) (a : Offset) (n : AccessSize) (v : Word) :
    memWrite s a n v = s ∨
    (s.status.busy = false ∧ a.toNat = 0 ∧ memWrite s a n v = s.accept (commandOp v)) ∨
    (s.status.busy = false ∧ legal s a.toNat n = true ∧ inIbuf s a.toNat = true ∧
      memWrite s a n v =
        ({ s with ibuf := Memory.writeAll s.ibuf (a.toNat - ibufBase) (writeBytes n v) }).setFrameValid false) ∨
    (s.status.busy = false ∧ memWrite s a n v = { s with winBase := v.setWidth 16 }) ∨
    (s.status.busy = false ∧ memWrite s a n v = { s with winLen := v.setWidth 16 }) := by
  unfold memWrite
  repeat' split
  all_goals simp_all

/-- A legal access that begins in IBUF ends in it. -/
theorem legal_inIbuf_bounds {s : State} {a : Nat} {n : AccessSize} (hl : legal s a n = true) (hi : inIbuf s a = true) :
    ibufBase ≤ a ∧ a + sizeBytes n ≤ ibufBase + s.build.bufCap := by
  have h : ibufBase ≤ a := by simp [inIbuf] at hi; exact hi.1
  have h40 : ¬a < 0x40 := by simp only [ibufBase] at h; omega
  simp [legal, h40, hi] at hl
  exact ⟨h, hl.2⟩

/-- A write carries as many bytes as its size says. -/
@[simp] theorem writeBytes_length (n : AccessSize) (v : Word) : (writeBytes n v).length = sizeBytes n := by
  simp [writeBytes]

end Sys2Proof.Machine
end

