-- ==== Sys2Proof/Laws/PerInstr.lean ====
section
/-! SUPPORT. Facts about every instruction as syntax, one lemma per constructor. -/

namespace Sys2Proof.Laws

/-- How many bytes a format's word has: a command word four, a frame type and a tag one (30_encoding.md R90, R97, R98). -/
def formatBytes (f : Format) : Nat :=
  match f with
  | .cmd => 4
  | .frame => 1
  | .gir => 1

/-- An instruction's encoding has the width of its format. -/
def EncodingWidth.Statement (i : Instr) : Prop := (encode i).length = formatBytes (formatOf i)

theorem EncodingWidth.nop : EncodingWidth.Statement .nop := rfl
theorem EncodingWidth.scan : EncodingWidth.Statement .scan := rfl
theorem EncodingWidth.parse : EncodingWidth.Statement .parse := rfl
theorem EncodingWidth.decode : EncodingWidth.Statement .decode := rfl
theorem EncodingWidth.reserved4 : EncodingWidth.Statement .reserved4 := rfl
theorem EncodingWidth.reserved5 : EncodingWidth.Statement .reserved5 := rfl
theorem EncodingWidth.reserved6 : EncodingWidth.Statement .reserved6 := rfl
theorem EncodingWidth.reserved7 : EncodingWidth.Statement .reserved7 := rfl
theorem EncodingWidth.decodeSetRequest : EncodingWidth.Statement .decodeSetRequest := rfl
theorem EncodingWidth.decodeGetInfoRequest : EncodingWidth.Statement .decodeGetInfoRequest := rfl
theorem EncodingWidth.decodeConnectRequest : EncodingWidth.Statement .decodeConnectRequest := rfl
theorem EncodingWidth.decodeSetResponse : EncodingWidth.Statement .decodeSetResponse := rfl
theorem EncodingWidth.decodeGetInfoResponse : EncodingWidth.Statement .decodeGetInfoResponse := rfl
theorem EncodingWidth.decodeConnectResponse : EncodingWidth.Statement .decodeConnectResponse := rfl
theorem EncodingWidth.decodeUnknown (ft : Byte) : EncodingWidth.Statement (.decodeUnknown ft) := rfl
theorem EncodingWidth.girSettings : EncodingWidth.Statement .girSettings := rfl
theorem EncodingWidth.girRoomTemperature : EncodingWidth.Statement .girRoomTemperature := rfl
theorem EncodingWidth.girTimers : EncodingWidth.Statement .girTimers := rfl
theorem EncodingWidth.girStatus : EncodingWidth.Statement .girStatus := rfl
theorem EncodingWidth.girUnknown (tag : Byte) : EncodingWidth.Statement (.girUnknown tag) := rfl

end Sys2Proof.Laws
end

