-- ==== Sys2Proof/Laws/Step.lean ====
section
/-! SUPPORT. What a step can do, and what the meanings have in common. -/

namespace Sys2Proof.Machine

/-- DECODE and each of its rows is the run of one decoder (44_payload_decode.md R270, R273). -/
theorem exec_decodeRow (i : Instr) (s : State) (h : isDecodeRow i = true) :
    ∃ d : State → Option Record, exec i s = .next (runDecoder d s) := by
  have gir : ∃ d : State → Option Record, execDecodeGetInfoResponse s = .next (runDecoder d s) := by
    unfold execDecodeGetInfoResponse
    split
    · exact ⟨girUnknownDecoder, rfl⟩
    · repeat' split
      · exact ⟨settingsDecoder, rfl⟩
      · exact ⟨roomTemperatureDecoder, rfl⟩
      · exact ⟨timersDecoder, rfl⟩
      · exact ⟨statusDecoder, rfl⟩
      · exact ⟨girUnknownDecoder, rfl⟩
  have dec : ∃ d : State → Option Record, execDecode s = .next (runDecoder d s) := by
    unfold execDecode
    split
    · split
      · exact ⟨setRequestDecoder, rfl⟩
      · exact ⟨getInfoRequestDecoder, rfl⟩
      · exact ⟨connectRequestDecoder, rfl⟩
      · exact ⟨setResponseDecoder, rfl⟩
      · exact gir
      · exact ⟨connectResponseDecoder, rfl⟩
      · exact ⟨unknownDecoder, rfl⟩
    · next hf => exact ⟨unknownDecoder, by simp [runDecoder, hf]⟩
  cases i with
  | decode => exact dec
  | decodeSetRequest => exact ⟨setRequestDecoder, rfl⟩
  | decodeGetInfoRequest => exact ⟨getInfoRequestDecoder, rfl⟩
  | decodeConnectRequest => exact ⟨connectRequestDecoder, rfl⟩
  | decodeSetResponse => exact ⟨setResponseDecoder, rfl⟩
  | decodeGetInfoResponse => exact gir
  | decodeConnectResponse => exact ⟨connectResponseDecoder, rfl⟩
  | decodeUnknown ft => exact ⟨unknownDecoder, rfl⟩
  | girSettings => exact ⟨settingsDecoder, rfl⟩
  | girRoomTemperature => exact ⟨roomTemperatureDecoder, rfl⟩
  | girTimers => exact ⟨timersDecoder, rfl⟩
  | girStatus => exact ⟨statusDecoder, rfl⟩
  | girUnknown tag => exact ⟨girUnknownDecoder, rfl⟩
  | nop | scan | parse | reserved4 | reserved5 | reserved6 | reserved7 => simp [isDecodeRow] at h

/-- SCAN's three ends (42_frame_parser.md R190). -/
theorem execScan_cases (s : State) :
    (s.windowLegal = true ∧ ∃ k, k < s.winLen.toNat ∧ s.window k = 0xFC#8 ∧ (∀ j, j < k → s.window j ≠ 0xFC#8) ∧
      execScan s = .next (finish .ok (s.setPosition (s.winBase.toNat + k) 0 k))) ∨
    (s.windowLegal = true ∧ (∀ k, k < s.winLen.toNat → s.window k ≠ 0xFC#8) ∧
      execScan s = .next (finish .incomplete (s.setPosition (s.winBase.toNat + s.winLen.toNat) 1 s.winLen.toNat))) ∨
    (s.windowLegal = false ∧ execScan s = .next (finish .windowError s)) := by
  unfold execScan
  cases s.windowLegal with
  | false => exact .inr (.inr ⟨rfl, rfl⟩)
  | true =>
    rcases firstMarker_cases s with ⟨k, hk, hlt, hm, hb⟩ | ⟨hk, hb⟩
    · exact .inl ⟨rfl, k, hlt, hm, hb, by simp [hk]⟩
    · exact .inr (.inl ⟨rfl, hb, by simp [hk]⟩)

/-- What a step can do: the engine completes the pending command, an idle engine rests, or one event of the surroundings
happens. -/
theorem step_cases {s t : State} (h : step s = .next t) :
    (engineMoves s = true ∧ exec (pendingInstr s) { s with inputs := s.inputs.tail } = .next t) ∨
    (s.status.busy = false ∧ (s.inputs = [] ∨ ∃ is, s.inputs = .engine :: is) ∧
      t = { s with inputs := s.inputs.tail }) ∨
    (∃ a n is, s.inputs = .read a n :: is ∧ t = hostRead { s with inputs := is } a n) ∨
    (∃ a n v is, s.inputs = .write a n v :: is ∧ t = memWrite { s with inputs := is } a n v) ∨
    (∃ is, s.inputs = .reset :: is ∧ t = applyReset { s with inputs := is }) ∨
    (∃ is, s.inputs = .wait :: is ∧ t = waitPoll { s with inputs := is }) ∨
    (∃ a hi lo v is, s.inputs = .expect a hi lo v :: is ∧ t = expectRead { s with inputs := is } a hi lo v) := by
  obtain ⟨status, winBase, winLen, frameInfo, cksum, pos, aux, record, ibuf, build, inputs, readData, failed, draws⟩ := s
  obtain ⟨busy, done, fv, res, op⟩ := status
  cases inputs with
  | nil =>
    cases busy with
    | true => exact .inl ⟨rfl, h⟩
    | false => exact .inr (.inl ⟨rfl, .inl rfl, by simpa [step, engineTurn] using h.symm⟩)
  | cons i is =>
    cases i with
    | read a n => exact .inr (.inr (.inl ⟨a, n, is, rfl, by simpa [step, inputStep] using h.symm⟩))
    | write a n v => exact .inr (.inr (.inr (.inl ⟨a, n, v, is, rfl, by simpa [step, inputStep] using h.symm⟩)))
    | engine =>
      cases busy with
      | true => exact .inl ⟨rfl, h⟩
      | false => exact .inr (.inl ⟨rfl, .inr ⟨is, rfl⟩, by simpa [step, inputStep, engineTurn] using h.symm⟩)
    | reset => exact .inr (.inr (.inr (.inr (.inl ⟨is, rfl, by simpa [step, inputStep] using h.symm⟩))))
    | wait => exact .inr (.inr (.inr (.inr (.inr (.inl ⟨is, rfl, by simpa [step, inputStep] using h.symm⟩)))))
    | expect a hi lo v =>
      exact .inr (.inr (.inr (.inr (.inr (.inr ⟨a, hi, lo, v, is, rfl, by simpa [step, inputStep] using h.symm⟩)))))

end Sys2Proof.Machine
end

