-- ==== Sys2Proof/Tests/Slice0.lean ====
section
/-! SUPPORT. The model's own tests: what WellFormed refuses, every row's word, one-step tests with the values of
95_test_vectors.md (its vector is named at each), and a witness for every statement that has hypotheses. -/

namespace Sys2Proof.Tests

open Sys2Proof Sys2Proof.Machine

/-! ### Small states -/

/-- The state after reset with `bs` written from IBUF index `base` up and the window on them. -/
def window (base : Nat) (bs : List Byte) : State :=
  { State.reset with
    ibuf := Memory.writeAll [] base bs
    winBase := BitVec.ofNat 16 base
    winLen := BitVec.ofNat 16 bs.length }

/-- A window of `n` bytes at `base`, no byte of which has been written. -/
def emptyWindow (base n : Nat) : State :=
  { State.reset with winBase := BitVec.ofNat 16 base, winLen := BitVec.ofNat 16 n }

/-- A valid frame of type `ft` with payload `p` at IBUF index 0, as a PARSE leaves it. -/
def framed (ft : Byte) (p : List Byte) : State :=
  let len : Byte := BitVec.ofNat 8 p.length
  let ck := checksum ft len p
  { State.reset with
    ibuf := Memory.writeAll [] 0 (frameBytes ft p)
    winLen := BitVec.ofNat 16 (6 + p.length)
    status := { Status.zero with done := true, frameValid := true, lastOp := 2#3 }
    frameInfo := ⟨ft, classOfFrameType ft, len⟩
    cksum := ⟨ck, ck, true⟩
    pos := ⟨BitVec.ofNat 16 (6 + p.length), 5#16⟩ }

/-- The state after an instruction. -/
def after (i : Instr) (s : State) : State :=
  match exec i s with
  | .next t => t
  | .fault _ => s
  | .refused _ => s

/-- A command `op` accepted by the reset machine. -/
def pending (op : BitVec 3) : State := State.reset.accept op

/-- FRAME_INFO, CKSUM, POS and AUX after a PARSE, and its RESULT's code. -/
def parsed (s : State) : List Word :=
  let t := after .parse s
  [regWord t .status, regWord t .frameInfo, regWord t .cksum, regWord t .pos, regWord t .aux]

/-- The decode result registers that a test compares. -/
def decoded (i : Instr) (s : State) : List Word :=
  let t := after i s
  [(resultBits t.status.result).setWidth 32, regWord t .payClass, regWord t .fieldValid, regWord t .enumA, regWord t .enumB,
    regWord t .enumC, regWord t .temp, regWord t .misc, regWord t .setFlags]

/-- The payload of the source's scenario 3 (V-SRC-3). -/
def scenario3 : List Byte :=
  [0x01#8, 0x1F#8, 0x01#8, 0x01#8, 0x08#8, 0x0A#8, 0x00#8, 0x07#8, 0x00#8, 0x00#8, 0x00#8, 0x00#8, 0x00#8, 0x01#8, 0xAA#8,
    0x00#8]

/-- The payload of the source's scenario 4 (V-SRC-4). -/
def scenario4 : List Byte :=
  [0x02#8, 0x00#8, 0x00#8, 0x01#8, 0x01#8, 0x0F#8, 0x00#8, 0x07#8, 0x00#8, 0x00#8, 0x03#8, 0x94#8, 0x00#8, 0x00#8, 0x00#8,
    0x00#8]

/-! ### WellFormed refuses -/

theorem test_wellFormed_refuses_listed_type : (Instr.decodeUnknown 0x41#8).wellFormed = false := by decide

theorem test_wellFormed_refuses_listed_tag : (Instr.girUnknown 0x02#8).wellFormed = false := by decide

theorem test_wellFormed_refuses_reversed_field : (ScriptLine.expectField 0x004#11 4 7 0).wellFormed = false := by decide

theorem test_wellFormed_refuses_field_past_31 : (ScriptLine.expectField 0x004#11 32 4 0).wellFormed = false := by decide

theorem test_wellFormed_refuses_load_past_window : (ScriptLine.load 1023 [0#8, 0#8]).wellFormed = false := by decide

/-- 93_implementation_defined.md U17. -/
theorem test_wellFormed_refuses_wait_first : scriptWellFormed [.r32 0x004#11, .wait, .run 0#32] = false := by decide

theorem test_wellFormed_accepts_script :
    scriptWellFormed [.load 1022 [0#8, 0#8], .w32 0x000#11 2#32, .wait, .expectField 0x004#11 31 31 0] = true := by decide

/-! ### Every row's word, written out from 30_encoding.md R91, R97 and R98 -/

theorem test_decode_nop : decode .cmd [0x00#8, 0x00#8, 0x00#8, 0x00#8] = .ok .nop := rfl
theorem test_decode_scan : decode .cmd [0x01#8, 0x00#8, 0x00#8, 0x00#8] = .ok .scan := rfl
theorem test_decode_parse : decode .cmd [0x02#8, 0x00#8, 0x00#8, 0x00#8] = .ok .parse := rfl
theorem test_decode_decode : decode .cmd [0x03#8, 0x00#8, 0x00#8, 0x00#8] = .ok .decode := rfl
theorem test_decode_reserved4 : decode .cmd [0x04#8, 0x00#8, 0x00#8, 0x00#8] = .ok .reserved4 := rfl
theorem test_decode_reserved5 : decode .cmd [0x05#8, 0x00#8, 0x00#8, 0x00#8] = .ok .reserved5 := rfl
theorem test_decode_reserved6 : decode .cmd [0x06#8, 0x00#8, 0x00#8, 0x00#8] = .ok .reserved6 := rfl
theorem test_decode_reserved7 : decode .cmd [0xFF#8, 0xFF#8, 0xFF#8, 0xFF#8] = .ok .reserved7 := rfl
theorem test_decode_setRequest : decode .frame [0x41#8] = .ok .decodeSetRequest := rfl
theorem test_decode_getInfoRequest : decode .frame [0x42#8] = .ok .decodeGetInfoRequest := rfl
theorem test_decode_connectRequest : decode .frame [0x5A#8] = .ok .decodeConnectRequest := rfl
theorem test_decode_setResponse : decode .frame [0x61#8] = .ok .decodeSetResponse := rfl
theorem test_decode_getInfoResponse : decode .frame [0x62#8] = .ok .decodeGetInfoResponse := rfl
theorem test_decode_connectResponse : decode .frame [0x7A#8] = .ok .decodeConnectResponse := rfl
theorem test_decode_unknown : decode .frame [0x99#8] = .ok (.decodeUnknown 0x99#8) := rfl
theorem test_decode_girSettings : decode .gir [0x02#8] = .ok .girSettings := rfl
theorem test_decode_girRoomTemperature : decode .gir [0x03#8] = .ok .girRoomTemperature := rfl
theorem test_decode_girTimers : decode .gir [0x05#8] = .ok .girTimers := rfl
theorem test_decode_girStatus : decode .gir [0x06#8] = .ok .girStatus := rfl
theorem test_decode_girUnknown : decode .gir [0x09#8] = .ok (.girUnknown 0x09#8) := rfl

theorem test_decode_refuses_wrong_width : decode .frame [0x41#8, 0x00#8] = .error (.wrongWidth .frame 2) := rfl

/-- The words of spec/opcode_table.json, and one byte for each of its two open rows. -/
theorem test_decodeTableWord :
    [(32, 0), (32, 3), (8, 0x41), (8, 0x62), (8, 0x00), (8, 0x02), (8, 0x06), (8, 0x04)].map
      (fun p => decodeTableWord p.1 p.2) =
    [some .nop, some .decode, some .decodeSetRequest, some .decodeGetInfoResponse, some (.decodeUnknown 0x00#8),
      some .girSettings, some .girStatus, some (.girUnknown 0x04#8)] := by decide

/-! ### One step of each instruction -/

/-- V-C-1. -/
theorem test_nop : regWord (after .nop (pending 0#3)) .status = 0x00000002#32 := by decide

/-- V-C-2 and its like. -/
theorem test_reserved :
    regWord (after .reserved4 (pending 4#3)) .status = 0x00000472#32 ∧
    regWord (after .reserved5 (pending 5#3)) .status = 0x00000572#32 ∧
    regWord (after .reserved6 (pending 6#3)) .status = 0x00000672#32 ∧
    regWord (after .reserved7 (pending 7#3)) .status = 0x00000772#32 := by decide

/-- V-S-5: the first of two markers. -/
theorem test_scan_first_marker :
    let t := after .scan (window 10 [0x00#8, 0xFC#8, 0x00#8, 0xFC#8])
    t.status.result = .ok ∧ regWord t .pos = 0x0000000B#32 ∧ regWord t .aux = 0x00010000#32 := by decide

/-- V-S-6: no marker in a window that ends at BUF_CAP. -/
theorem test_scan_no_marker :
    let t := after .scan (window 508 [0x01#8, 0x02#8, 0x03#8, 0x04#8])
    t.status.result = .incomplete ∧ regWord t .pos = 0x00000200#32 ∧ regWord t .aux = 0x00040001#32 := by decide

/-- V-P-14: a frame and two more bytes. -/
theorem test_parse_frame_and_rest :
    parsed { window 0 [0xFC#8, 0x7A#8, 0x01#8, 0x30#8, 0x01#8, 0x00#8, 0x54#8, 0xFC#8, 0x7A#8] with
      status := (pending 2#3).status } =
    [0x00000206#32, 0x0001057A#32, 0x00015454#32, 0x00050007#32, 0x00000000#32] := by decide

/-- V-SRC-1a: the printed checksum does not pass. -/
theorem test_parse_mismatch :
    parsed { window 0 [0xFC#8, 0x7A#8, 0x01#8, 0x30#8, 0x01#8, 0x00#8, 0xAC#8] with status := (pending 2#3).status } =
    [0x00000232#32, 0x0001057A#32, 0x000054AC#32, 0x00050007#32, 0x00000000#32] := by decide

/-- V-D-24, through the command: a ConnectResponse. -/
theorem test_decode_command :
    decoded .decode (framed 0x7A#8 [0x00#8]) = [0#32, 0x00000005#32, 0x00000400#32, 0#32, 0#32, 0#32, 0#32, 0#32, 0#32] := by
  decide

/-- V-D-1. -/
theorem test_decode_no_frame : regWord (after .decode (pending 3#3)) .status = 0x00000352#32 := by decide

/-- V-D-4. -/
theorem test_setRequest_scenario3 :
    decoded .decodeSetRequest (framed 0x41#8 scenario3) =
    [0#32, 0#32, 0x0000083F#32, 0x00080001#32, 0x00070000#32, 0x00000001#32, 0x00D200AA#32, 0#32, 0x0000011F#32] := by decide

/-- V-D-8: the flagged temperature lies past the payload. -/
theorem test_setRequest_missing_field :
    decoded .decodeSetRequest (framed 0x41#8 (0x01#8 :: 0x04#8 :: List.replicate 12 0x00#8)) =
    [4#32, 0#32, 0#32, 0#32, 0#32, 0#32, 0#32, 0#32, 0#32] := by decide

/-- V-D-16. -/
theorem test_getInfoRequest :
    decoded .decodeGetInfoRequest (framed 0x42#8 [0x07#8]) =
    [0#32, 0x00060701#32, 0x00000200#32, 0#32, 0#32, 0#32, 0#32, 0#32, 0#32] := by decide

/-- V-D-18. -/
theorem test_connectRequest :
    decoded .decodeConnectRequest (framed 0x5A#8 [0xCA#8, 0x01#8]) =
    [0#32, 0x00000002#32, 0#32, 0#32, 0#32, 0#32, 0#32, 0#32, 0#32] := by decide

/-- V-D-19. -/
theorem test_connectRequest_wrong_magic :
    decoded .decodeConnectRequest (framed 0x5A#8 [0xCA#8, 0x02#8]) =
    [4#32, 0x00000002#32, 0#32, 0#32, 0#32, 0#32, 0#32, 0#32, 0#32] := by decide

/-- V-D-23. -/
theorem test_setResponse :
    decoded .decodeSetResponse (framed 0x61#8 []) = [0#32, 0x00000003#32, 0#32, 0#32, 0#32, 0#32, 0#32, 0#32, 0#32] := by
  decide

/-- V-D-25. -/
theorem test_connectResponse :
    decoded .decodeConnectResponse (framed 0x7A#8 [0xFF#8, 0x12#8]) =
    [0#32, 0x00000005#32, 0x00000400#32, 0#32, 0#32, 0#32, 0#32, 0x00FF0000#32, 0#32] := by decide

/-- V-D-27. -/
theorem test_unknown_type :
    decoded (.decodeUnknown 0x00#8) (framed 0x00#8 [0x01#8, 0x02#8]) =
    [0#32, 0x00000006#32, 0#32, 0#32, 0#32, 0#32, 0#32, 0#32, 0#32] := by decide

/-- V-D-38, through the dispatch by tag. -/
theorem test_getInfoResponse_status :
    decoded .decodeGetInfoResponse (framed 0x62#8 [0x06#8, 0x00#8, 0x00#8, 0x2A#8, 0x01#8]) =
    [0#32, 0x00040624#32, 0x00000380#32, 0#32, 0#32, 0#32, 0#32, 0x0000012A#32, 0#32] := by decide

/-- V-D-28. -/
theorem test_girSettings_scenario4 :
    decoded .girSettings (framed 0x62#8 scenario4) =
    [0#32, 0x00000204#32, 0x0000027F#32, 0x00010001#32, 0x00070000#32, 0x00000003#32, 0x00640094#32, 0#32, 0#32] := by decide

/-- V-D-32: bytes outside their tables, and the packed mode byte. -/
theorem test_girSettings_unknowns :
    decoded .girSettings (framed 0x62#8
      [0x02#8, 0x00#8, 0x00#8, 0x02#8, 0xF3#8, 0x00#8, 0x04#8, 0x09#8, 0x00#8, 0x00#8, 0x00#8, 0x00#8]) =
    [0#32, 0x00000204#32, 0x0000027F#32, 0x00030102#32, 0x01090104#32, 0x00000100#32, 0x01360100#32, 0#32, 0#32] := by decide

/-- V-D-34: the mapped room temperature. -/
theorem test_girRoomTemperature_mapped :
    decoded .girRoomTemperature (framed 0x62#8 [0x03#8, 0x00#8, 0x00#8, 0x0B#8, 0x00#8, 0x00#8, 0x00#8]) =
    [0#32, 0x00010314#32, 0x00000204#32, 0#32, 0#32, 0#32, 0x00D2020B#32, 0#32, 0#32] := by decide

/-- V-D-35: the half-degree byte wins. -/
theorem test_girRoomTemperature_half :
    decoded .girRoomTemperature (framed 0x62#8 [0x03#8, 0x00#8, 0x00#8, 0x0B#8, 0x00#8, 0x00#8, 0xA0#8]) =
    [0#32, 0x00010314#32, 0x00000204#32, 0#32, 0#32, 0#32, 0x00A000A0#32, 0#32, 0#32] := by decide

/-- V-D-37. -/
theorem test_girTimers :
    decoded .girTimers (framed 0x62#8 [0x05#8, 0x11#8, 0x22#8, 0x33#8]) =
    [0#32, 0x00030534#32, 0x00000200#32, 0#32, 0#32, 0#32, 0#32, 0#32, 0#32] := by decide

/-- V-D-39: a payload too short for Status. -/
theorem test_girStatus_short :
    decoded .girStatus (framed 0x62#8 [0x06#8, 0x00#8, 0x00#8, 0x2A#8]) =
    [0#32, 0x00040634#32, 0x00000200#32, 0#32, 0#32, 0#32, 0#32, 0#32, 0#32] := by decide

/-- V-D-42. -/
theorem test_girUnknown :
    decoded (.girUnknown 0x77#8) (framed 0x62#8 [0x77#8]) =
    [0#32, 0x00067734#32, 0x00000200#32, 0#32, 0#32, 0#32, 0#32, 0#32, 0#32] := by decide

/-- The STATUS values that 95_test_vectors.md decodes, one for each RESULT code. -/
theorem test_status_values :
    [statusWord ⟨false, true, false, .ok, 1#3⟩, statusWord ⟨false, true, true, .incomplete, 1#3⟩,
      statusWord ⟨false, true, false, .malformed, 2#3⟩, statusWord ⟨false, true, false, .checksumMismatch, 2#3⟩,
      statusWord ⟨false, true, true, .payloadDecodeError, 3#3⟩, statusWord ⟨false, true, false, .noFrame, 3#3⟩,
      statusWord ⟨false, true, false, .windowError, 2#3⟩, statusWord ⟨false, true, false, .illegalOp, 7#3⟩] =
    [0x00000102#32, 0x00000116#32, 0x00000222#32, 0x00000232#32, 0x00000346#32, 0x00000352#32, 0x00000262#32,
      0x00000772#32] := by decide

/-- V-B-2: WIN_BASE at 0x008 takes the low 16 bits, and WIN_LEN at 0x00C is another register. -/
theorem test_port_window_registers :
    let t := memWrite (memWrite State.reset 0x008#11 .four 0x12345678#32) 0x00C#11 .four 7#32
    memRead t 0x008#11 .four = 0x00005678#32 ∧ memRead t 0x00C#11 .four = 7#32 := by decide

/-- V-CK-6 to V-CK-8: the checksum's wrap-around. -/
theorem test_checksum_wraps :
    checksum 0x7A#8 0x01#8 [0x55#8] = 0xFF#8 ∧ checksum 0x7A#8 0x01#8 [0x54#8] = 0x00#8 ∧
    checksum 0x7A#8 0x01#8 [0x58#8] = 0xFC#8 := by decide

/-- V-B-9: the last IBUF bytes at BUF_CAP = 262 take a halfword, and a word there is illegal. -/
theorem test_port_end_of_ibuf :
    let s := { State.reset with build := { defaultBuild with bufCap := 262 } }
    memRead (memWrite s 0x504#11 .two 0xBEEF#32) 0x504#11 .two = 0x0000BEEF#32 ∧
    memWrite s 0x504#11 .four 0x0#32 = s ∧ memRead s 0x504#11 .four = 0#32 := by decide

/-! ### Witnesses: a concrete state and operands that meet each statement's hypotheses -/

theorem witness_DecodeOfEncode :
    (Instr.girUnknown 0x04#8).wellFormed = true ∧ (Instr.decodeUnknown 0x60#8).wellFormed = true := by decide

theorem witness_IgnoredCommandBits : (0x00000003#32 : Word) &&& 0x7#32 = 0xFFFFFFFB#32 &&& 0x7#32 := by decide

theorem witness_TypeBytes :
    0x43#8 ∉ [0x41#8, 0x42#8, 0x5A#8, 0x61#8, 0x62#8, 0x7A#8] ∧ 0x07#8 ∉ [0x02#8, 0x03#8, 0x04#8, 0x05#8, 0x06#8, 0x09#8] := by
  decide

theorem witness_StepRunsThePending :
    let s := pending 7#3
    s.status.busy = true ∧ s.status.lastOp = commandOp (wordOfBytes 0xFF#8 0xFF#8 0xFF#8 0xFF#8) ∧ s.inputs = [] ∧
    ({ s with inputs := [.engine, .wait] }).inputs = .engine :: [.wait] := by decide

theorem witness_HostEvents :
    ({ State.reset with inputs := [.read 0x7FF#11 .one] }).inputs = .read 0x7FF#11 .one :: [] ∧
    ({ State.reset with inputs := [.write 0x000#11 .four 2#32] }).inputs = .write 0x000#11 .four 2#32 :: [] ∧
    ({ pending 2#3 with inputs := [.reset] }).inputs = .reset :: [] ∧
    ({ pending 2#3 with inputs := [.wait] }).inputs = .wait :: [] ∧
    ({ State.reset with inputs := [.expect 0x004#11 31 31 0] }).inputs = .expect 0x004#11 31 31 0 :: [] ∧
    State.reset.status.busy = false ∧ State.reset.inputs = [] ∧
    ({ State.reset with inputs := [.engine] }).inputs = .engine :: [] := by decide

theorem witness_busy_and_idle : (pending 1#3).status.busy = true ∧ State.reset.status.busy = false := by decide

/-- For EveryCommandEndsCompleted, CommandsWriteOnlyTheirRegisters, CommandsReadOnlyWindowOrPayload,
EnumTablesChangeOnlyUnkBits and ResultsDependOnlyOnTheInputs. -/
theorem witness_exec_answers :
    (∃ t, exec .reserved4 State.reset = .next t) ∧ (∃ t, exec .scan (window 508 [0#8, 0#8, 0#8, 0xFC#8]) = .next t) ∧
    (∃ t, exec .parse (window 0 [0xFC#8, 0x42#8, 0x01#8, 0x30#8, 0x00#8, 0x8D#8]) = .next t) ∧
    (isDecodeRow .girStatus = true ∧ ∃ t, exec .girStatus (framed 0x62#8 [0x06#8]) = .next t) :=
  ⟨⟨_, rfl⟩, ⟨_, rfl⟩, ⟨_, rfl⟩, rfl, ⟨_, rfl⟩⟩

/-- The clause of CommandsWriteOnlyTheirRegisters on an illegal window. -/
theorem witness_scan_illegal_window :
    let s := emptyWindow 512 1
    s.build.bufCap < s.winBase.toNat + s.winLen.toNat ∧ ∃ t, exec .scan s = .next t := ⟨by decide, ⟨_, rfl⟩⟩

theorem witness_Reserved : (7#32 : Word).getLsbD 2 = true ∧ State.reset.status.busy = false := by decide

/-- SCAN: a marker in the last byte of IBUF; no marker in an empty window at BUF_CAP; a window that ends one byte past
it. -/
theorem witness_Scan :
    (let s := window 508 [0#8, 0#8, 0#8, 0xFC#8]
     s.winBase.toNat + s.winLen.toNat ≤ s.build.bufCap ∧ 3 < s.winLen.toNat ∧ s.window 3 = 0xFC#8 ∧
       ∀ j, j < 3 → s.window j ≠ 0xFC#8) ∧
    (let s := emptyWindow 512 0
     s.winBase.toNat + s.winLen.toNat ≤ s.build.bufCap ∧ ∀ k, k < s.winLen.toNat → s.window k ≠ 0xFC#8) ∧
    (let s := emptyWindow 512 1
     s.build.bufCap < s.winBase.toNat + s.winLen.toNat) := by
  refine ⟨by decide, ⟨by decide, fun k h => absurd h (Nat.not_lt_zero k)⟩, by decide⟩

theorem witness_Parse_illegal_window :
    (let s := emptyWindow 512 1
     s.build.bufCap < s.winBase.toNat + s.winLen.toNat) ∧
    (let s := emptyWindow 0xFFFF 0xFFFF
     s.build.bufCap < s.winBase.toNat + s.winLen.toNat) := by decide

theorem witness_Parse_short_window :
    (let s := window 507 [0xFC#8, 0x42#8, 0x01#8, 0x30#8, 0xFF#8]
     s.winBase.toNat + s.winLen.toNat ≤ s.build.bufCap ∧ s.winLen.toNat < 6 ∧ s.winLen.toNat = 5) ∧
    (let s := window 508 [0xFC#8, 0x42#8, 0x01#8, 0x30#8]
     s.winBase.toNat + s.winLen.toNat ≤ s.build.bufCap ∧ s.winLen.toNat < 6 ∧ s.winLen.toNat ≠ 5) := by decide

theorem witness_Parse_malformed :
    let s := window 506 [0xFC#8, 0x42#8, 0x01#8, 0x31#8, 0x00#8, 0x8D#8]
    s.winBase.toNat + s.winLen.toNat ≤ s.build.bufCap ∧ 6 ≤ s.winLen.toNat ∧
      (s.window 0 ≠ 0xFC#8 ∨ s.window 2 ≠ 0x01#8 ∨ s.window 3 ≠ 0x30#8) := by decide

theorem witness_Parse_truncated :
    let s := window 506 [0xFC#8, 0x42#8, 0x01#8, 0x30#8, 0x01#8, 0x00#8]
    s.winBase.toNat + s.winLen.toNat ≤ s.build.bufCap ∧ 6 ≤ s.winLen.toNat ∧ s.window 0 = 0xFC#8 ∧
      s.window 2 = 0x01#8 ∧ s.window 3 = 0x30#8 ∧ s.winLen.toNat < 6 + (s.window 4).toNat := by decide

/-- A whole frame, with a checksum byte that passes and with one that does not. -/
theorem witness_Parse_whole_frame :
    ∀ rx ∈ [0x8D#8, 0x8E#8],
      let s := window 506 [0xFC#8, 0x42#8, 0x01#8, 0x30#8, 0x00#8, rx]
      s.winBase.toNat + s.winLen.toNat ≤ s.build.bufCap ∧ 6 + (s.window 4).toNat ≤ s.winLen.toNat ∧
        s.window 0 = 0xFC#8 ∧ s.window 2 = 0x01#8 ∧ s.window 3 = 0x30#8 := by decide

theorem witness_ParseAcceptsEveryBuiltFrame :
    let p := [0x02#8]
    let rest := [0xFC#8]
    let s := window 504 (frameBytes 0x42#8 p ++ rest)
    s.build.wf ∧ p.length ≤ 255 ∧ s.winLen.toNat = 6 + p.length + rest.length ∧
      s.winBase.toNat + s.winLen.toNat ≤ s.build.bufCap ∧ holdsAt s s.winBase.toNat (frameBytes 0x42#8 p ++ rest) := by
  decide

/-- The clause with nothing after the frame. -/
theorem witness_ParseAcceptsEveryBuiltFrame_exact :
    let s := window 506 (frameBytes 0xFF#8 [])
    s.build.wf ∧ s.winLen.toNat = 6 ∧ s.winBase.toNat + s.winLen.toNat ≤ s.build.bufCap ∧
      holdsAt s s.winBase.toNat (frameBytes 0xFF#8 [] ++ []) := by decide

/-- The largest build and the smallest. -/
theorem witness_build_bounds :
    ({ defaultBuild with bufCap := 261 }).wf ∧ ({ defaultBuild with bufCap := 1024 }).wf := by decide

/-- Truncations to no byte, to 4, to 5 (the length byte is there), and to all but the checksum byte. -/
theorem witness_Truncation :
    ∀ m ∈ [0, 4, 5, 6],
      let s := window 500 ((frameBytes 0x42#8 [0x02#8]).take m)
      s.build.wf ∧ m < 6 + [0x02#8].length ∧ s.winLen.toNat = m ∧ s.winBase.toNat + m ≤ s.build.bufCap ∧
        holdsAt s s.winBase.toNat ((frameBytes 0x42#8 [0x02#8]).take m) := by decide

/-- Another IBUF that agrees on the window, and one that agrees on the payload. -/
theorem witness_CommandsReadOnlyWindowOrPayload :
    (let s := window 4 [0xFC#8, 0x42#8]
     let m := Memory.write (Memory.write s.ibuf 3 0xAA#8) 6 0xBB#8
     ∀ k, k < s.winLen.toNat → Memory.read m (s.winBase.toNat + k) = Memory.read s.ibuf (s.winBase.toNat + k)) ∧
    (let s := framed 0x62#8 [0x05#8, 0x11#8]
     let m := Memory.write (Memory.write s.ibuf 4 0xAA#8) 7 0xBB#8
     ∀ k, k < s.payloadLen →
       Memory.read m (s.pos.payloadOff.toNat + k) = Memory.read s.ibuf (s.pos.payloadOff.toNat + k)) := by decide

theorem witness_Checksum_changes :
    (frameBytes 0x42#8 [0x02#8]).length ≤ 255 ∧ 0x43#8 ≠ 0x42#8 ∧ 0 < [0x02#8].length ∧ 0x03#8 ≠ [0x02#8][0] := by decide

theorem witness_FieldExtraction : 0 < 8 ∧ 7 < 8 := by decide

/-- DECODE and each of its rows, with no frame. -/
theorem witness_DecodeWithoutFrame :
    State.reset.status.frameValid = false ∧ isDecodeRow .decode = true ∧ isDecodeRow (.decodeUnknown 0x41#8) = true ∧
    isDecodeRow (.girUnknown 0x02#8) = true := by decide

/-- A valid frame of each class that always decodes, and one that can fail. -/
theorem witness_DecodeRunsTheRow :
    (framed 0x41#8 [0x02#8]).status.frameValid = true ∧
    (after .decode (framed 0x41#8 [0x02#8])).status.result = .payloadDecodeError ∧
    ∀ ft ∈ [0x61#8, 0x62#8, 0x99#8],
      (framed ft []).frameInfo.ftClass ∈ [FrameClass.setResponse, .getInfoResponse, .unknown] := by decide

/-- SetRequest, the OK clause: L = 3 without a flag, and each flag at the shortest payload that holds its field. -/
theorem witness_SetRequest_ok :
    ∀ fp ∈ [(0x00#8, 0x00#8, 0), (0x01#8, 0x00#8, 1), (0x02#8, 0x00#8, 2), (0x04#8, 0x00#8, 12), (0x08#8, 0x00#8, 4),
        (0x10#8, 0x00#8, 5), (0x00#8, 0x01#8, 11)],
      let s := framed 0x41#8 (0x01#8 :: fp.1 :: fp.2.1 :: List.replicate fp.2.2 0x00#8)
      s.status.frameValid = true ∧ 3 ≤ s.payloadLen ∧ s.payload 0 = 0x01#8 ∧
        ¬(((s.payload 1).getLsbD 0 = true ∧ s.payloadLen ≤ 3) ∨ ((s.payload 1).getLsbD 1 = true ∧ s.payloadLen ≤ 4) ∨
          ((s.payload 1).getLsbD 2 = true ∧ s.payloadLen ≤ 14) ∨ ((s.payload 1).getLsbD 3 = true ∧ s.payloadLen ≤ 6) ∨
          ((s.payload 1).getLsbD 4 = true ∧ s.payloadLen ≤ 7) ∨ ((s.payload 2).getLsbD 0 = true ∧ s.payloadLen ≤ 13)) := by
  decide

/-- SetRequest, the error clause: L = 2, a wrong constant, and each flag at the longest payload that lacks its field. -/
theorem witness_SetRequest_error :
    (framed 0x41#8 [0x01#8, 0x00#8]).payloadLen < 3 ∧ (framed 0x41#8 [0x02#8, 0x00#8, 0x00#8]).payload 0 ≠ 0x01#8 ∧
    (let s := framed 0x41#8 [0x01#8, 0x01#8, 0x00#8]
     (s.payload 1).getLsbD 0 = true ∧ s.payloadLen ≤ 3) ∧
    (let s := framed 0x41#8 (0x01#8 :: 0x02#8 :: 0x00#8 :: List.replicate 1 0x00#8)
     (s.payload 1).getLsbD 1 = true ∧ s.payloadLen ≤ 4) ∧
    (let s := framed 0x41#8 (0x01#8 :: 0x04#8 :: 0x00#8 :: List.replicate 11 0x00#8)
     (s.payload 1).getLsbD 2 = true ∧ s.payloadLen ≤ 14) ∧
    (let s := framed 0x41#8 (0x01#8 :: 0x08#8 :: 0x00#8 :: List.replicate 3 0x00#8)
     (s.payload 1).getLsbD 3 = true ∧ s.payloadLen ≤ 6) ∧
    (let s := framed 0x41#8 (0x01#8 :: 0x10#8 :: 0x00#8 :: List.replicate 4 0x00#8)
     (s.payload 1).getLsbD 4 = true ∧ s.payloadLen ≤ 7) ∧
    (let s := framed 0x41#8 (0x01#8 :: 0x00#8 :: 0x01#8 :: List.replicate 10 0x00#8)
     (s.payload 2).getLsbD 0 = true ∧ s.payloadLen ≤ 13) := by decide

/-- One-byte and empty payloads: GetInfoRequest, ConnectResponse and GetInfoResponse. -/
theorem witness_first_byte :
    ∀ ft ∈ [0x42#8, 0x7A#8, 0x62#8],
      (framed ft []).status.frameValid = true ∧ (framed ft []).payloadLen = 0 ∧ (framed ft [0x05#8]).status.frameValid = true ∧
        1 ≤ (framed ft [0x05#8]).payloadLen := by decide

theorem witness_ConnectRequest :
    (let s := framed 0x5A#8 [0xCA#8, 0x01#8]
     s.status.frameValid = true ∧ 2 ≤ s.payloadLen ∧ s.payload 0 = 0xCA#8 ∧ s.payload 1 = 0x01#8) ∧
    (framed 0x5A#8 [0xCA#8]).payloadLen < 2 ∧ (framed 0x5A#8 [0xCB#8, 0x01#8]).payload 0 ≠ 0xCA#8 ∧
    (framed 0x5A#8 [0xCA#8, 0x02#8]).payload 1 ≠ 0x01#8 := by decide

/-- SetResponse and the Unknown row with an empty payload. -/
theorem witness_OpaquePayloads :
    (framed 0x61#8 []).status.frameValid = true ∧ (framed 0x99#8 []).status.frameValid = true := by decide

/-- The shortest payload of each variant, and the longest that is too short. -/
theorem witness_Variants :
    12 ≤ (framed 0x62#8 (0x02#8 :: List.replicate 11 0x00#8)).payloadLen ∧
    (framed 0x62#8 (0x02#8 :: List.replicate 10 0x00#8)).payloadLen < 12 ∧
    7 ≤ (framed 0x62#8 (0x03#8 :: List.replicate 6 0x00#8)).payloadLen ∧
    (framed 0x62#8 (0x03#8 :: List.replicate 5 0x00#8)).payloadLen < 7 ∧
    5 ≤ (framed 0x62#8 (0x06#8 :: List.replicate 4 0x00#8)).payloadLen ∧
    (framed 0x62#8 (0x06#8 :: List.replicate 3 0x00#8)).payloadLen < 5 ∧
    1 ≤ (framed 0x62#8 [0x05#8]).payloadLen ∧ (framed 0x62#8 [0x05#8]).status.frameValid = true := by decide

theorem witness_DecodeIsIdempotent :
    let s := framed 0x62#8 [0x06#8, 0x00#8]
    writtenAt s s.pos.payloadOff.toNat s.payloadLen ∧ ∃ t, exec .decode s = .next t := ⟨by decide, ⟨_, rfl⟩⟩

/-- Another state with the same inputs of a command and another history: other old results, another REST_OFF, other
draws, all bytes read being written; and two states that differ in an unwritten byte the command does not read. -/
theorem witness_ResultsDependOnlyOnTheInputs :
    (let s := framed 0x62#8 [0x06#8, 0x00#8]
     let s' := { s with record := (after .decode s).record, pos := { s.pos with restOff := 0#16 }, draws := 7 }
     (∀ k, k < s.payloadLen → s'.payload k = s.payload k) ∧ s'.winBase = s.winBase ∧ s'.winLen = s.winLen ∧
       s'.frameInfo = s.frameInfo ∧ s'.pos.payloadOff = s.pos.payloadOff ∧ s'.status.frameValid = s.status.frameValid ∧
       s'.build = s.build ∧ s' ≠ s ∧ ∃ t, exec .decode s = .next t) ∧
    (let s := window 508 [0x00#8, 0x11#8, 0xFC#8, 0x7A#8]
     let s' := { s with ibuf := Memory.write s.ibuf 0 0xFC#8, draws := 7 }
     (∀ k, k < s.winLen.toNat → s'.window k = s.window k) ∧ ∃ t, exec .scan s = .next t) :=
  ⟨⟨by decide, rfl, rfl, rfl, rfl, rfl, rfl, by decide, _, rfl⟩, by decide, _, rfl⟩

/-- The first and the last byte, halfword and word of IBUF. -/
theorem witness_Ibuf_writes :
    ∀ an ∈ [(0x400#11, AccessSize.one), (0x5FF#11, .one), (0x5FE#11, .two), (0x5FC#11, .four)],
      State.reset.status.busy = false ∧ 0x400 ≤ an.1.toNat ∧ an.1.toNat + sizeBytes an.2 ≤ 0x400 + State.reset.build.bufCap ∧
        an.1.toNat % sizeBytes an.2 = 0 := by decide

/-- A narrow and a misaligned register access, a misaligned and a crossing IBUF access, and the ends of the reserved
regions. -/
theorem witness_Illegal :
    ((0x008#11 : Offset).toNat < 0x40 ∧ AccessSize.two ≠ .four) ∧ ((0x03E#11 : Offset).toNat < 0x40 ∧ 0x03E % 4 ≠ 0) ∧
    (0x401 < 0x400 + defaultBuild.bufCap ∧ 0x401 % sizeBytes .two ≠ 0) ∧
    (let cap := 262
     0x504 < 0x400 + cap ∧ 0x400 + cap < 0x504 + sizeBytes .four) ∧
    (0x40 ≤ (0x040#11 : Offset).toNat ∧ (0x3FF#11 : Offset).toNat < 0x400) ∧
    0x400 + defaultBuild.bufCap ≤ (0x600#11 : Offset).toNat := by decide

theorem witness_RegistersAtThePort :
    State.reset.status.busy = false ∧ 0x004#11 ∈ [0x004#11, 0x03C#11] ∧ 0x03C#11 ∈ [0x004#11, 0x03C#11] := by decide

theorem witness_Reset : ({ pending 2#3 with inputs := [.reset, .wait] }).inputs = .reset :: [.wait] := by decide

/-- FRAME_VALID rises at a PARSE, and falls at a PARSE, at a write to IBUF and at reset. -/
theorem witness_FrameValidChanges :
    (let s := { window 0 (frameBytes 0x42#8 []) with status := (pending 2#3).status }
     s.status.frameValid = false ∧ ∃ t, step s = .next t ∧ t.status.frameValid = true) ∧
    (let s := { framed 0x42#8 [] with
        winLen := 0#16, status := { Status.zero with busy := true, frameValid := true, lastOp := 2#3 } }
     s.status.frameValid = true ∧ ∃ t, step s = .next t ∧ t.status.frameValid = false) ∧
    (let s := { framed 0x42#8 [] with inputs := [.write 0x5FF#11 .one 0#32] }
     s.status.frameValid = true ∧ ∃ t, step s = .next t ∧ t.status.frameValid = false) ∧
    (let s := { framed 0x42#8 [] with inputs := [.reset] }
     s.status.frameValid = true ∧ ∃ t, step s = .next t ∧ t.status.frameValid = false) :=
  ⟨⟨rfl, _, rfl, rfl⟩, ⟨rfl, _, rfl, rfl⟩, ⟨rfl, _, rfl, rfl⟩, ⟨rfl, _, rfl, rfl⟩⟩

/-- A pending command behind a WAIT and no reset; its step leaves it pending. -/
theorem witness_AcceptedCommandsComplete :
    let s := { pending 2#3 with inputs := [.wait] }
    s.status.busy = true ∧ .reset ∉ s.inputs ∧ ∃ t, step s = .next t ∧ t.status.busy = true :=
  ⟨rfl, by decide, _, rfl, rfl⟩

theorem witness_OnlyResetLeavesNoCommand :
    let s := { pending 2#3 with inputs := [.wait] }
    (∃ t, step s = .next t) ∧ (s.status.busy = true ∨ s.status.done = true) ∧ ∀ is, s.inputs ≠ .reset :: is :=
  ⟨⟨_, rfl⟩, .inl rfl, fun _ h => by cases h⟩

theorem witness_WaitWithNothingPending :
    let s := { State.reset with inputs := [.wait] }
    s.status.busy = false ∧ s.status.done = false ∧ s.inputs = .wait :: [] := by decide

theorem witness_Inv : Inv State.reset := by constructor <;> decide

/-- A state with a certified frame and a pending DECODE that keeps it. -/
theorem witness_FrameCertified :
    let s := { framed 0x42#8 [] with status := { Status.zero with busy := true, frameValid := true, lastOp := 3#3 } }
    Inv s ∧ s.status.frameValid = true ∧ FrameCertified s ∧ ∃ t, step s = .next t ∧ t.status.frameValid = true := by
  refine ⟨by constructor <;> decide, rfl, ?_, _, rfl, rfl⟩
  have is (i : Nat) (b : Byte) (h : Memory.read (framed 0x42#8 []).ibuf i = some b) : standsAs (framed 0x42#8 []) i b :=
    fun v hv => by rw [h] at hv; exact (Option.some.inj hv).symm
  refine ⟨by decide, rfl, by decide, is _ _ rfl, is _ _ rfl, is _ _ rfl, is _ _ rfl, is _ _ rfl, is _ _ rfl, ?_⟩
  intro p hp _
  obtain rfl : p = [] := List.length_eq_zero_iff.mp hp
  decide

/-- A record with every field absent, and the step of a pending DECODE that fills one. -/
theorem witness_AbsentReadZero :
    AbsentReadZero State.reset.record ∧
    ∃ t, step { framed 0x7A#8 [0xFF#8] with status := { Status.zero with busy := true, frameValid := true, lastOp := 3#3 } } =
      .next t ∧ t.record.fieldValid.conn = true := by
  refine ⟨by constructor <;> decide, _, rfl, rfl⟩

/-- A PARSE with each of the three codes, and a SCAN that finds a marker. -/
theorem witness_ParseAdvances :
    State.reset.build.wf ∧
    (after .parse (window 506 [0xFC#8, 0x42#8, 0x01#8, 0x30#8, 0x00#8, 0x8D#8])).status.result = .ok ∧
    (after .parse (window 506 [0xFC#8, 0x42#8, 0x01#8, 0x30#8, 0x00#8, 0x8E#8])).status.result = .checksumMismatch ∧
    (after .parse (window 506 [0xFD#8, 0x42#8, 0x01#8, 0x30#8, 0x00#8, 0x8D#8])).status.result = .malformed ∧
    (after .scan (window 511 [0xFC#8])).status.result = .ok := by decide

/-- The loop from both of its states, over all of IBUF and over an empty buffer. -/
theorem witness_ResyncLoop :
    State.reset.build.wf ∧ State.reset.status.busy = false ∧
    ∀ l ∈ [HostLoop.mk 0 512 false, ⟨512, 512, true⟩], l.pos ≤ l.fin ∧ l.fin ≤ State.reset.build.bufCap := by decide

end Sys2Proof.Tests
end

section
/-! PROOFS. The statements of 10_state.md. What a decoder, a command and a step can do to the state is said once each; the
invariants of every step are case analyses over that. -/

namespace Sys2Proof.Machine

/-! ### Absent fields read 0: the writers of the decode record -/

/-- clear_decode() leaves every field absent and 0 (42_frame_parser.md R196). -/
theorem absentReadZero_zero : AbsentReadZero .zero := by constructor <;> simp [Record.zero, Misc.zero, PayClass.zero]

/-- A decoder starts from a record with no field present: PCLASS has no valid bit. -/
theorem absentReadZero_startRecord (s : State) : AbsentReadZero (startRecord s) :=
  { absentReadZero_zero with }

/-- A field is written together with its valid bit, so no absent field is touched (43_payload_fields.md R230). -/
theorem AbsentReadZero.setEnum {r : Record} (h : AbsentReadZero r) (t : Config.EnumTables) (f : EnumField) (v : Byte) :
    AbsentReadZero (setEnum t f v r) := by
  cases f with
  | power => exact { h with power := nofun }
  | mode => exact { h with mode := nofun }
  | fan => exact { h with fan := nofun }
  | vane => exact { h with vane := nofun }
  | wideVane => exact { h with wideVane := nofun }
  | isee => exact { h with isee := nofun }

theorem AbsentReadZero.setTemp {r : Record} (h : AbsentReadZero r) (k : TempKind) (v : Byte) :
    AbsentReadZero (setTemp k v r) := { h with temp := nofun }

theorem AbsentReadZero.setInfo {r : Record} (h : AbsentReadZero r) (v : Byte) : AbsentReadZero (setInfo v r) :=
  { h with info := nofun }

theorem AbsentReadZero.setGirVariant {r : Record} (h : AbsentReadZero r) (v : GirVariant) :
    AbsentReadZero (setGirVariant v r) := { h with }

theorem AbsentReadZero.setFlagBytes {r : Record} (h : AbsentReadZero r) (f1 f2 : Byte) :
    AbsentReadZero (setFlagBytes f1 f2 r) := { h with flags := nofun }

/-- A gated field is skipped or written like any other. -/
theorem AbsentReadZero.gated {put : Byte → Record → Record} (hput : ∀ b r, AbsentReadZero r → AbsentReadZero (put b r))
    {present : Bool} {v : Option Byte} {r r' : Record} (h : AbsentReadZero r) (e : gated present v put r = some r') :
    AbsentReadZero r' := by
  rcases gated_cases present v put r with ⟨-, hg⟩ | ⟨b, -, -, hg⟩ | ⟨-, -, hg⟩
  · cases hg.symm.trans e; exact h
  · cases hg.symm.trans e; exact hput b r h
  · cases hg.symm.trans e

theorem AbsentReadZero.setRequestFields {s : State} {f1 f2 : Byte} {r r' : Record} (h : AbsentReadZero r)
    (e : setRequestFields s f1 f2 r = some r') : AbsentReadZero r' := by
  simp only [Machine.setRequestFields, Option.bind_eq_some_iff] at e
  obtain ⟨r1, e1, r2, e2, r3, e3, r4, e4, r5, e5, e6⟩ := e
  have enum (f : EnumField) (b : Byte) (r : Record) (h : AbsentReadZero r) := h.setEnum s.build.tables f b
  have h2 := (h.gated (enum _) e1).gated (enum _) e2
  have h3 := h2.gated (fun b r h => h.setTemp .half b) e3
  exact ((h3.gated (enum _) e4).gated (enum _) e5).gated (enum _) e6

theorem setRequestDecoder_absentReadZero {s : State} {r : Record} (e : setRequestDecoder s = some r) :
    AbsentReadZero r := by
  simp only [setRequestDecoder, Option.bind_eq_some_iff] at e
  obtain ⟨c, -, e⟩ := e
  split at e
  · simp only [Option.bind_eq_some_iff] at e
    obtain ⟨f1, -, f2, -, e⟩ := e
    exact ((absentReadZero_startRecord s).setFlagBytes f1 f2).setRequestFields e
  · cases e

/-- ConnectRequest records nothing but PCLASS (44_payload_decode.md R280). -/
theorem connectRequestDecoder_eq_startRecord {s : State} {r : Record} (e : connectRequestDecoder s = some r) :
    r = startRecord s := by
  simp only [connectRequestDecoder, Option.bind_eq_some_iff] at e
  obtain ⟨b0, -, e⟩ := e
  split at e
  · obtain ⟨b1, -, e⟩ := Option.bind_eq_some_iff.mp e
    split at e
    · exact (Option.some.inj e).symm
    · cases e
  · cases e

theorem absentReadZero_girStart (s : State) : AbsentReadZero (girStart s) := by
  have h := (absentReadZero_startRecord s).setGirVariant .unknown
  unfold girStart
  cases girTag s with
  | none => exact h
  | some t => exact h.setInfo t

theorem AbsentReadZero.settingsRecord {r : Record} (h : AbsentReadZero r) (s : State) :
    AbsentReadZero (settingsRecord s r) := by
  unfold Machine.settingsRecord
  dsimp only
  exact .setEnum (.setEnum (.setEnum (.setTemp (.setEnum (.setEnum (.setEnum (h.setGirVariant _) ..) ..) ..) ..) ..) ..) ..

theorem AbsentReadZero.roomTemperatureRecord {r : Record} (h : AbsentReadZero r) (s : State) :
    AbsentReadZero (roomTemperatureRecord s r) := (h.setGirVariant _).setTemp _ _

theorem AbsentReadZero.statusRecord {r : Record} (h : AbsentReadZero r) (s : State) :
    AbsentReadZero (statusRecord s r) :=
  { h.setGirVariant .status with compFreq := nofun, operating := nofun }

/-- The GetInfoResponse row of a tag, as a decoder (44_payload_decode.md R285). -/
def girDecoderOf (tag : Option Byte) : State → Option Record :=
  match tag with
  | none => girUnknownDecoder
  | some t =>
    if t = 0x02#8 then settingsDecoder
    else if t = 0x03#8 then roomTemperatureDecoder
    else if t = 0x05#8 then timersDecoder
    else if t = 0x06#8 then statusDecoder
    else girUnknownDecoder

/-- DECODE's decoder: the row of FT_CLASS and, for a GetInfoResponse, of the tag (44_payload_decode.md R272). -/
def decoderOf (c : FrameClass) (tag : Option Byte) : State → Option Record :=
  match c with
  | .setRequest => setRequestDecoder
  | .getInfoRequest => getInfoRequestDecoder
  | .connectRequest => connectRequestDecoder
  | .setResponse => setResponseDecoder
  | .getInfoResponse => girDecoderOf tag
  | .connectResponse => connectResponseDecoder
  | .unknown => unknownDecoder

theorem execDecodeGetInfoResponse_eq (s : State) :
    execDecodeGetInfoResponse s = .next (runDecoder (girDecoderOf (girTag s)) s) := by
  unfold execDecodeGetInfoResponse girDecoderOf
  cases girTag s with
  | none => rfl
  | some t =>
    dsimp only
    repeat' split
    all_goals rfl

/-- DECODE is the run of one decoder, chosen by FT_CLASS and the tag (44_payload_decode.md R273). -/
theorem execDecode_eq (s : State) :
    execDecode s = .next (runDecoder (decoderOf s.frameInfo.ftClass (girTag s)) s) := by
  cases hv : s.status.frameValid with
  | false => simp [execDecode, runDecoder, hv]
  | true =>
    simp only [execDecode, hv, if_true]
    cases s.frameInfo.ftClass with
    | getInfoResponse => exact execDecodeGetInfoResponse_eq s
    | setRequest | getInfoRequest | connectRequest | setResponse | connectResponse | unknown => rfl

theorem girDecoderOf_absentReadZero {tag : Option Byte} {s : State} {r : Record} (e : girDecoderOf tag s = some r) :
    AbsentReadZero r := by
  have h := absentReadZero_girStart s
  unfold girDecoderOf at e
  split at e
  · cases e; exact h
  · repeat' split at e
    · cases e; split
      · exact h.settingsRecord s
      · exact h
    · cases e; split
      · exact h.roomTemperatureRecord s
      · exact h
    · cases e; exact h
    · cases e; split
      · exact h.statusRecord s
      · exact h
    · cases e; exact h

/-- Whatever record DECODE answers has 0 in its absent fields. -/
theorem decoderOf_absentReadZero {c : FrameClass} {tag : Option Byte} {s : State} {r : Record}
    (e : decoderOf c tag s = some r) : AbsentReadZero r := by
  have h := absentReadZero_startRecord s
  cases c with
  | setRequest => exact setRequestDecoder_absentReadZero e
  | getInfoRequest =>
    obtain ⟨t, -, rfl⟩ := Option.map_eq_some_iff.mp e
    exact h.setInfo t
  | connectRequest => exact connectRequestDecoder_eq_startRecord e ▸ h
  | setResponse => cases e; exact h
  | getInfoResponse => exact girDecoderOf_absentReadZero e
  | connectResponse =>
    obtain ⟨b, -, rfl⟩ := Option.map_eq_some_iff.mp e
    exact { h with conn := nofun }
  | unknown => cases e; exact h

/-! ### What FRAME_VALID certifies -/

/-- What the certificate of FRAME_VALID speaks of is the same in both states. -/
structure SameFrame (s t : State) : Prop where
  frameInfo  : t.frameInfo = s.frameInfo
  cksum      : t.cksum = s.cksum
  payloadOff : t.pos.payloadOff = s.pos.payloadOff
  ibuf       : t.ibuf = s.ibuf
  build      : t.build = s.build

/-- The certificate speaks of nothing but what `SameFrame` keeps. -/
theorem FrameCertified.congr {s t : State} (c : FrameCertified s) (h : SameFrame s t) : FrameCertified t := by
  obtain ⟨hf, hc, hp, hi, hb⟩ := h
  obtain ⟨passed, isClass, inside, start, type, const1, const2, length, received, computed⟩ := c
  constructor <;> simp only [standsAs, holdsAt, State.payloadLen, hf, hc, hp, hi, hb] <;> assumption

/-- The byte of IBUF that window byte `k` reads stands as what was read. -/
theorem standsAs_window (s : State) (k : Nat) : standsAs s (s.winBase.toNat + k) (s.window k) :=
  fun _ hv => (ibufByte_of_read hv).symm

/-- A payload that stands written in the window is the one PARSE reads. -/
theorem windowPayload_of_holdsAt {s : State} {p : List Byte} (h : holdsAt s (s.winBase.toNat + 5) p) :
    windowPayload s p.length = p := by
  apply List.ext_getElem
  · simp [windowPayload]
  · intro k hk hp
    have hb := ibufByte_of_read (h k hp)
    simpa [windowPayload, State.window, Nat.add_assoc] using hb

/-- P_HDR passes only on the three fixed bytes (30_encoding.md R95). -/
theorem headerMismatch_eq_false {s : State} (h : headerMismatch s = false) :
    s.window 0 = 0xFC#8 ∧ s.window 2 = 0x01#8 ∧ s.window 3 = 0x30#8 := by
  simpa [headerMismatch, and_assoc] using h

/-- A frame that lies in a legal window, has the fixed bytes and passes the checksum is certified by what P_CHECK reports. -/
theorem reported_certified {s : State} (hcap : s.build.bufCap ≤ 1024) (hw : s.windowLegal = true)
    (hm : headerMismatch s = false) (hl : 6 + (s.window 4).toNat ≤ s.winLen.toNat)
    (hok : (reported s).cksum.ckOk = true) : FrameCertified (reported s) := by
  obtain ⟨h0, h2, h3⟩ := headerMismatch_eq_false hm
  have hfit : s.winBase.toNat + s.winLen.toNat ≤ s.build.bufCap := of_decide_eq_true hw
  have hoff : (reported s).pos.payloadOff.toNat = s.winBase.toNat + 5 := by
    simp only [reported, BitVec.toNat_ofNat]; omega
  have stands (k : Nat) : standsAs (reported s) (s.winBase.toNat + k) (s.window k) := standsAs_window s k
  constructor
  case passed => exact ⟨hok, eq_of_beq hok⟩
  case isClass => rfl
  case inside => rw [hoff]; exact ⟨by omega, by show _ + (s.window 4).toNat + 1 ≤ s.build.bufCap; omega⟩
  case start => rw [hoff, ← h0]; exact stands 0
  case type => rw [hoff]; exact stands 1
  case const1 => rw [hoff, ← h2]; exact stands 2
  case const2 => rw [hoff, ← h3]; exact stands 3
  case length => rw [hoff]; exact stands 4
  case received => rw [hoff, Nat.add_assoc]; exact stands _
  case computed =>
    intro p hp hold
    rw [hoff] at hold
    have hlen : (s.window 4).toNat = p.length := hp.symm
    have hpay : windowPayload s (s.window 4).toNat = p := hlen ▸ windowPayload_of_holdsAt (s := s) hold
    exact congrArg (checksum (s.window 1) (s.window 4)) hpay

/-- What a completed PARSE leaves. -/
structure ParseEnds (s t : State) : Prop where
  result    : resultOfOp 2#3 t.status.result = true
  lastOp    : t.status.lastOp = s.status.lastOp
  idle      : t.status.busy = false
  ibuf      : t.ibuf = s.ibuf
  build     : t.build = s.build
  record    : t.record = .zero
  cksum     : t.cksum.ckOk = true → t.cksum.ckRx = t.cksum.ckCalc
  okOfValid : t.status.frameValid = true → t.status.result = .ok
  certified : t.status.frameValid = true → s.build.bufCap ≤ 1024 → FrameCertified t

/-- A PARSE that ends before P_CHECK reports no frame. -/
theorem ParseEnds.of_cleared {s u : State} {code : ResultCode} (hr : resultOfOp 2#3 code = true)
    (hs : u.status = { s.status with frameValid := false }) (hi : u.ibuf = s.ibuf) (hb : u.build = s.build)
    (hrec : u.record = .zero) (hc : u.cksum = .zero) : ParseEnds s (finish code u) where
  result    := hr
  lastOp    := by simp [hs]
  idle      := rfl
  ibuf      := hi
  build     := hb
  record    := hrec
  cksum     := by simp [hc, Cksum.zero]
  okOfValid := by simp [hs]
  certified := by simp [hs]

/-- P_CHECK on a window that holds a whole frame certifies it, or leaves FRAME_VALID at 0. -/
theorem pCheck_ends {s w : State} (hs : w.status = { s.status with frameValid := false }) (hi : w.ibuf = s.ibuf)
    (hb : w.build = s.build) (hrec : w.record = .zero) (hw : w.windowLegal = true) (hm : headerMismatch w = false)
    (hl : 6 + (w.window 4).toNat ≤ w.winLen.toNat) : ParseEnds s (pCheck w) := by
  rcases pCheck_cases w with ⟨hok, e⟩ | ⟨-, e⟩
  · rw [e]
    exact
      { result := rfl, lastOp := by simp [reported, hs], idle := rfl, ibuf := hi, build := hb, record := hrec
        cksum := eq_of_beq
        okOfValid := fun _ => rfl
        certified := fun _ hcap =>
          (reported_certified (hb ▸ hcap) hw hm hl hok).congr ⟨rfl, rfl, rfl, rfl, rfl⟩ }
  · rw [e]
    exact
      { result := rfl, lastOp := by simp [reported, hs], idle := rfl, ibuf := hi, build := hb, record := hrec
        cksum := eq_of_beq
        okOfValid := by simp [reported, hs]
        certified := by simp [reported, hs] }

/-- Every PARSE ends so, whichever of its five ends it takes. -/
theorem pWin_parseStart_ends (s : State) : ParseEnds s (pWin (parseStart s)) := by
  rcases pWin_cases (parseStart s) with ⟨-, e⟩ | ⟨hw, t, rfl, ⟨-, e⟩ | ⟨-, -, e⟩ | ⟨-, -, -, e⟩ | ⟨hm, hl, e⟩⟩
  · rw [e]; exact .of_cleared rfl rfl rfl rfl rfl rfl
  · rw [e]; exact .of_cleared rfl rfl rfl rfl rfl rfl
  · rw [e]; exact .of_cleared rfl rfl rfl rfl rfl rfl
  · rw [e]; exact .of_cleared rfl rfl rfl rfl rfl rfl
  · rw [e]; exact pCheck_ends rfl rfl rfl rfl hw hm hl

/-- What a completed command other than PARSE leaves: the frame and FRAME_VALID as they were, and a record that is kept or
a decoder's. -/
structure OtherEnds (s t : State) : Prop where
  result : resultOfOp s.status.lastOp t.status.result = true
  status : t.status = completedStatus s t.status.result
  frame  : SameFrame s t
  record : t.record = s.record ∨ AbsentReadZero t.record

theorem SameFrame.refl (s : State) : SameFrame s s := ⟨rfl, rfl, rfl, rfl, rfl⟩

/-- A command that keeps STATUS and the frame until it ends, and ends with a code of its own. -/
theorem OtherEnds.of_finish {s u : State} {code : ResultCode} (hr : resultOfOp s.status.lastOp code = true)
    (hs : u.status = s.status) (hf : SameFrame s u) (hrec : u.record = s.record ∨ AbsentReadZero u.record) :
    OtherEnds s (finish code u) where
  result := hr
  status := by rw [finish_status, hs]; rfl
  frame  := { hf with }
  record := hrec

theorem execScan_ends {s t : State} (hop : s.status.lastOp = 1#3) (h : execScan s = .next t) : OtherEnds s t := by
  rcases execScan_cases s with ⟨-, k, -, -, -, e⟩ | ⟨-, -, e⟩ | ⟨-, e⟩
  all_goals
    cases e.symm.trans h
    exact .of_finish (by rw [hop]; rfl) rfl ⟨rfl, rfl, rfl, rfl, rfl⟩ (.inl rfl)

theorem runDecoder_ends {s : State} {d : State → Option Record} (hop : s.status.lastOp = 3#3)
    (hd : ∀ r, d s = some r → AbsentReadZero r) : OtherEnds s (runDecoder d s) := by
  rcases runDecoder_cases d s with ⟨-, e⟩ | ⟨-, ⟨r, hr, e⟩ | ⟨-, e⟩⟩
  · rw [e]; exact .of_finish (by rw [hop]; rfl) rfl (.refl s) (.inl rfl)
  · rw [e]; exact .of_finish (by rw [hop]; rfl) rfl ⟨rfl, rfl, rfl, rfl, rfl⟩ (.inr (hd r hr))
  · rw [e]; exact .of_finish (by rw [hop]; rfl) rfl ⟨rfl, rfl, rfl, rfl, rfl⟩ (.inr (absentReadZero_startRecord s))

/-! ### What the pending command and a step leave -/

/-- The opcode map, the four reserved codes taken together: each ends with ILLEGAL_OP (40_command_interface.md R149). -/
theorem decodeOp_cases (op : BitVec 3) :
    (op = 0#3 ∧ decodeOp op = .nop) ∨ (op = 1#3 ∧ decodeOp op = .scan) ∨ (op = 2#3 ∧ decodeOp op = .parse) ∨
    (op = 3#3 ∧ decodeOp op = .decode) ∨
    (resultOfOp op .illegalOp = true ∧ ∀ s, exec (decodeOp op) s = .next (illegalOp s)) := by
  match op with
  | 0#3 => exact .inl ⟨rfl, rfl⟩
  | 1#3 => exact .inr (.inl ⟨rfl, rfl⟩)
  | 2#3 => exact .inr (.inr (.inl ⟨rfl, rfl⟩))
  | 3#3 => exact .inr (.inr (.inr (.inl ⟨rfl, rfl⟩)))
  | 4#3 | 5#3 | 6#3 | 7#3 => exact .inr (.inr (.inr (.inr ⟨rfl, fun _ => rfl⟩)))

/-- The completion of the pending command is a PARSE's or another command's. -/
theorem exec_pending_ends {s t : State} (h : exec (pendingInstr s) s = .next t) :
    (s.status.lastOp = 2#3 ∧ ParseEnds s t) ∨ OtherEnds s t := by
  unfold pendingInstr at h
  rcases decodeOp_cases s.status.lastOp with ⟨hop, e⟩ | ⟨hop, e⟩ | ⟨hop, e⟩ | ⟨hop, e⟩ | ⟨hr, e⟩
  · rw [e] at h
    cases h
    exact .inr (.of_finish (by rw [hop]; rfl) rfl (.refl s) (.inl rfl))
  · rw [e] at h
    exact .inr (execScan_ends hop h)
  · rw [e] at h
    cases h
    exact .inl ⟨hop, pWin_parseStart_ends s⟩
  · rw [e] at h
    cases (execDecode_eq s).symm.trans h
    exact .inr (runDecoder_ends hop fun _ => decoderOf_absentReadZero)
  · cases (e s).symm.trans h
    exact .inr (.of_finish hr rfl (.refl s) (.inl rfl))

/-- STATUS, the frame and the record are as they were. -/
structure KeepsMachine (s t : State) : Prop where
  status : t.status = s.status
  frame  : SameFrame s t
  record : t.record = s.record

/-- An IBUF write that is carried out. -/
def storeIbuf (s : State) (a : Offset) (n : AccessSize) (v : Word) : State :=
  ({ s with ibuf := Memory.writeAll s.ibuf (a.toNat - ibufBase) (writeBytes n v) }).setFrameValid false

/-- A legal write to IBUF keeps it in canonical form. -/
theorem storeIbuf_wf {s : State} {a : Offset} {n : AccessSize} {v : Word} (shape : legal s a.toNat n = true)
    (place : inIbuf s a.toNat = true) (h : Memory.wf s.build.bufCap s.ibuf) :
    Memory.wf (storeIbuf s a n v).build.bufCap (storeIbuf s a n v).ibuf := by
  obtain ⟨hlo, hhi⟩ := legal_inIbuf_bounds shape place
  have fits : a.toNat - ibufBase + (writeBytes n v).length ≤ s.build.bufCap := by rw [writeBytes_length]; omega
  exact Memory.writeAll_wf (writeBytes n v) fits h

/-- A bit that is kept neither rises nor falls. -/
theorem changes_only_if_of_eq {a b : Bool} {P Q : Prop} (e : b = a) :
    (a = false → b = true → P) ∧ (a = true → b = false → Q) := by
  subst e
  cases b with
  | false => exact ⟨nofun, nofun⟩
  | true => exact ⟨nofun, nofun⟩

/-- What one step does to STATUS, the frame, the record and IBUF, with the event that caused a change of FRAME_VALID. -/
inductive StepEffect (s : State) : State → Prop where
  | parse {t : State} (moves : engineMoves s = true) (op : s.status.lastOp = 2#3) (ends : ParseEnds s t) : StepEffect s t
  | other {t : State} (ends : OtherEnds s t) : StepEffect s t
  | keep {t : State} (keeps : KeepsMachine s t) : StepEffect s t
  | accept (op : BitVec 3) (is : List Input) : StepEffect s (({ s with inputs := is }).accept op)
  | store {a : Offset} {n : AccessSize} {v : Word} {is : List Input} (event : s.inputs = .write a n v :: is)
      (idle : s.status.busy = false) (shape : legal s a.toNat n = true) (place : inIbuf s a.toNat = true) :
      StepEffect s (storeIbuf { s with inputs := is } a n v)
  | reset {is : List Input} (event : s.inputs = .reset :: is) : StepEffect s (applyReset { s with inputs := is })

/-- A poll of WAIT reads STATUS and schedules events; it changes no register. -/
theorem waitPoll_keeps (s : State) (is : List Input) : KeepsMachine s (waitPoll { s with inputs := is }) := by
  unfold waitPoll
  dsimp only
  split <;> exact ⟨rfl, ⟨rfl, rfl, rfl, rfl, rfl⟩, rfl⟩

/-- A host write is ignored or sets a window register, starts a command, or stores into IBUF. -/
theorem memWrite_effect {s : State} {a : Offset} {n : AccessSize} {v : Word} {is : List Input}
    (event : s.inputs = .write a n v :: is) : StepEffect s (memWrite { s with inputs := is } a n v) := by
  rcases memWrite_cases { s with inputs := is } a n v with e | ⟨-, -, e⟩ | ⟨idle, hl, hi, e⟩ | ⟨-, e⟩ | ⟨-, e⟩
  · rw [e]; exact .keep ⟨rfl, ⟨rfl, rfl, rfl, rfl, rfl⟩, rfl⟩
  · rw [e]; exact .accept (commandOp v) is
  · rw [e]; exact .store event idle hl hi
  · rw [e]; exact .keep ⟨rfl, ⟨rfl, rfl, rfl, rfl, rfl⟩, rfl⟩
  · rw [e]; exact .keep ⟨rfl, ⟨rfl, rfl, rfl, rfl, rfl⟩, rfl⟩

/-- Every step has one of the effects. -/
theorem step_effect {s t : State} (h : step s = .next t) : StepEffect s t := by
  rcases step_cases h with ⟨hm, h⟩ | ⟨-, -, rfl⟩ | ⟨a, n, is, -, rfl⟩ | ⟨a, n, v, is, hin, rfl⟩ | ⟨is, hin, rfl⟩ |
    ⟨is, -, rfl⟩ | ⟨a, hi, lo, v, is, -, rfl⟩
  · rcases exec_pending_ends (s := { s with inputs := s.inputs.tail }) h with ⟨hop, ends⟩ | ends
    · exact .parse hm hop { ends with }
    · exact .other { ends with frame := { ends.frame with } }
  · exact .keep ⟨rfl, ⟨rfl, rfl, rfl, rfl, rfl⟩, rfl⟩
  · exact .keep ⟨rfl, ⟨rfl, rfl, rfl, rfl, rfl⟩, rfl⟩
  · exact memWrite_effect hin
  · exact .reset hin
  · exact .keep (waitPoll_keeps s is)
  · exact .keep ⟨rfl, ⟨rfl, rfl, rfl, rfl, rfl⟩, rfl⟩

/-- An IBUF with no byte written is in canonical form. -/
theorem Memory.wf_nil (cap : Nat) : Memory.wf cap [] := ⟨.nil, nofun⟩

/-! ### The invariants of every step -/

/-- Settles O54: the default build is a legal one, and every flag of the state after reset is 0. -/
theorem resetMeetsTheInvariants : Obligations.ResetMeetsTheInvariants := by
  have inv : Inv State.reset :=
    { build := by decide
      ibuf := reset_ibuf_wf
      flags := nofun
      cksum := nofun
      result := nofun }
  exact ⟨inv, nofun, absentReadZero_zero⟩

/-- Settles O55, by cases on the step's effect: a completion ends with a code of its command, an accepted command clears
DONE, and a store lies inside IBUF. -/
theorem everyStepKeepsTheInvariant : Obligations.EveryStepKeepsTheInvariant := by
  intro s t inv h
  cases step_effect h with
  | parse _ op ends =>
    exact
      { build := ends.build ▸ inv.build
        ibuf := by rw [ends.build, ends.ibuf]; exact inv.ibuf
        flags := by simp [ends.idle]
        cksum := ends.cksum
        result := fun _ => by rw [ends.lastOp, op]; exact ends.result }
  | other ends =>
    exact
      { build := ends.frame.build ▸ inv.build
        ibuf := by rw [ends.frame.build, ends.frame.ibuf]; exact inv.ibuf
        flags := by rw [ends.status]; simp [completedStatus]
        cksum := by rw [ends.frame.cksum]; exact inv.cksum
        result := fun _ => by rw [ends.status]; exact ends.result }
  | keep keeps =>
    exact
      { build := keeps.frame.build ▸ inv.build
        ibuf := by rw [keeps.frame.build, keeps.frame.ibuf]; exact inv.ibuf
        flags := by rw [keeps.status]; exact inv.flags
        cksum := by rw [keeps.frame.cksum]; exact inv.cksum
        result := by rw [keeps.status]; exact inv.result }
  | accept op is => exact { inv with flags := by simp, result := by simp }
  | store event idle shape place =>
    exact { inv with ibuf := storeIbuf_wf shape place inv.ibuf }
  | reset event =>
    exact
      { build := inv.build
        ibuf := Memory.wf_nil _
        flags := nofun
        cksum := nofun
        result := nofun }

/-- Settles O56: only a PARSE raises FRAME_VALID, and it certifies what it reports; any other step that leaves it 1 keeps the
frame and its bytes. -/
theorem everyStepKeepsFramesCertified : Obligations.EveryStepKeepsFramesCertified := by
  intro s t inv cert h hv
  cases step_effect h with
  | parse _ _ ends => exact ends.certified hv inv.build.2.1
  | other ends =>
    rw [ends.status] at hv
    exact (cert hv).congr ends.frame
  | keep keeps => exact (cert (keeps.status ▸ hv)).congr keeps.frame
  | accept op is => exact (cert hv).congr ⟨rfl, rfl, rfl, rfl, rfl⟩
  | store => nomatch hv
  | reset => nomatch hv

/-- Settles O57: the record is kept, cleared, or a decoder's. -/
theorem everyStepKeepsAbsentFieldsZero : Obligations.EveryStepKeepsAbsentFieldsZero := by
  intro s t habs h
  cases step_effect h with
  | parse _ _ ends => rw [ends.record]; exact absentReadZero_zero
  | other ends =>
    rcases ends.record with e | hd
    · rw [e]; exact habs
    · exact hd
  | keep keeps => rw [keeps.record]; exact habs
  | accept => exact habs
  | store => exact habs
  | reset => exact absentReadZero_zero

/-- Settles O50: the effects that change FRAME_VALID carry the event that the rule lists. -/
theorem frameValidChangesOnlyAsListed : Obligations.FrameValidChangesOnlyAsListed := by
  intro s t h
  cases step_effect h with
  | parse moves op ends => exact ⟨fun _ up => ⟨moves, op, ends.okOfValid up⟩, fun _ _ => .inl ⟨moves, op⟩⟩
  | other ends => exact changes_only_if_of_eq (by rw [ends.status]; rfl)
  | keep keeps => exact changes_only_if_of_eq (by rw [keeps.status])
  | accept => exact changes_only_if_of_eq rfl
  | store event idle shape place => exact ⟨nofun, fun _ _ => .inr (.inl ⟨_, _, _, _, event, idle, shape, place⟩)⟩
  | reset event => exact ⟨nofun, fun _ _ => .inr (.inr ⟨_, event⟩)⟩

/-! ### The registers -/

/-- A register takes an aligned 4-byte access (20_memory.md R63). -/
theorem legal_regOffset (s : State) (r : Reg) : legal s (regOffset r) .four = true := by cases r <;> rfl

/-- No register lies in IBUF (20_memory.md R61). -/
theorem inIbuf_regOffset (s : State) (r : Reg) : inIbuf s (regOffset r) = false := by cases r <;> rfl

/-- The registers' offsets are distinct (10_state.md R22). -/
theorem regAt_regOffset (r : Reg) : regAt (regOffset r) = some r := by cases r <;> rfl

/-- A host read at a register's offset returns its word (20_memory.md R66). -/
theorem memRead_reg {s : State} {a : Offset} {r : Reg} (h : a.toNat = regOffset r) :
    memRead s a .four = regWord s r := by
  simp [memRead, h, legal_regOffset, inIbuf_regOffset, regAt_regOffset]

/-- A host write at a register other than CMD: ignored while BUSY, and else only the window registers take it
(20_memory.md R67). -/
theorem memWrite_reg {s : State} {a : Offset} {r : Reg} (v : Word) (h : a.toNat = regOffset r) (hr : r ≠ .cmd) :
    memWrite s a .four v =
      if s.status.busy then s
      else if r = .winBase then { s with winBase := v.setWidth 16 }
      else if r = .winLen then { s with winLen := v.setWidth 16 }
      else s := by
  have cmd : regOffset r ≠ 0x000 := by cases r <;> simp_all [regOffset]
  have base : regOffset r = 0x008 ↔ r = .winBase := by cases r <;> simp [regOffset]
  have len : regOffset r = 0x00C ↔ r = .winLen := by cases r <;> simp [regOffset]
  simp [memWrite, h, legal_regOffset, inIbuf_regOffset, cmd, base, len]

theorem memWrite_winBase {s : State} (idle : s.status.busy = false) (v : Word) :
    memWrite s 0x008#11 .four v = { s with winBase := v.setWidth 16 } := by
  rw [memWrite_reg (r := .winBase) v rfl (by decide)]
  simp [idle]

theorem memWrite_winLen {s : State} (idle : s.status.busy = false) (v : Word) :
    memWrite s 0x00C#11 .four v = { s with winLen := v.setWidth 16 } := by
  rw [memWrite_reg (r := .winLen) v rfl (by decide)]
  simp [idle]

/-- The registers that no host write changes (10_state.md R22). -/
def readOnlyRegs : List Reg :=
  [.status, .frameInfo, .cksum, .pos, .aux, .payClass, .fieldValid, .enumA, .enumB, .enumC, .temp, .misc, .setFlags]

/-- A write at the offset of a read-only register is ignored, BUSY or not. -/
theorem memWrite_of_mem_readOnlyRegs {s : State} {v : Word} {a : Offset}
    (ha : a ∈ readOnlyRegs.map fun r => BitVec.ofNat 11 (regOffset r)) : memWrite s a .four v = s := by
  obtain ⟨r, hr, rfl⟩ := List.mem_map.mp ha
  have other : r ≠ .cmd ∧ r ≠ .winBase ∧ r ≠ .winLen := by revert r; decide
  rw [memWrite_reg (r := r) v (by cases r <;> rfl) other.1]
  simp [other]

/-- A window register reads back as the low 16 bits written to it (10_state.md R25, R26). -/
theorem zero_append_setWidth_eq_and (v : Word) : 0#16 ++ v.setWidth 16 = v &&& 0xFFFF#32 := by
  apply BitVec.eq_of_toNat_eq
  rw [BitVec.toNat_append]
  simpa using (Nat.and_two_pow_sub_one_eq_mod v.toNat 16).symm

/-- Settles O47: each offset is a register's, so the rules of a register's read and write give every clause. -/
theorem registersAtThePort : Obligations.RegistersAtThePort := by
  intro s v
  refine ⟨⟨memRead_reg (r := .cmd) rfl, ?_⟩, fun idle => ?_, fun a => memWrite_of_mem_readOnlyRegs⟩
  · and_intros
    all_goals exact memRead_reg rfl
  · rw [memWrite_winBase idle, memWrite_winLen idle]
    refine ⟨rfl, rfl, ?_, ?_, ?_, ?_⟩
    · exact (memRead_reg (r := .winBase) rfl).trans (zero_append_setWidth_eq_and v)
    · exact (memRead_reg (r := .winLen) rfl).trans (zero_append_setWidth_eq_and v)
    · exact (memRead_reg (r := .winLen) rfl).trans (memRead_reg (r := .winLen) rfl).symm
    · exact (memRead_reg (r := .winBase) rfl).trans (memRead_reg (r := .winBase) rfl).symm

/-- A bit is a field of width 1. -/
theorem getLsbD_eq_iff_extractLsb' {n : Nat} (w : BitVec n) (k : Nat) (b : Bool) :
    w.getLsbD k = b ↔ w.extractLsb' k 1 = BitVec.ofBool b := by
  have bit : w.extractLsb' k 1 = BitVec.ofBool (w.getLsbD k) := by
    ext i hi
    obtain rfl : i = 0 := by omega
    simp
  rw [bit, BitVec.ofBool_eq_iff_eq]

/-- ENUM_A, ENUM_B and ENUM_C have their fields at the same bits (10_state.md R34, R35, R36). -/
theorem enumWord_fields (lo hi : EnumValue) :
    let w := enumWord lo hi
    w.extractLsb' 0 8 = lo.raw ∧ w.getLsbD 8 = lo.unk ∧ w.extractLsb' 9 7 = 0#7 ∧
      w.extractLsb' 16 8 = hi.raw ∧ w.getLsbD 24 = hi.unk ∧ w.extractLsb' 25 7 = 0#7 := by
  simp only [enumWord, getLsbD_eq_iff_extractLsb', BitVec.extractLsb'_append_eq_of_le, BitVec.extractLsb'_append_eq_right,
    BitVec.extractLsb'_eq_self, Nat.reduceLeDiff, Nat.reduceSub, and_self]

/-- Settles O48. A register's word appends its fields, the lowest last, so a field is found by dropping the ones below it
(`extractLsb'_append_eq_of_le`) and then taking the lowest (`extractLsb'_append_eq_right`). -/
theorem registerFieldsStandAtTheirBits : Obligations.RegisterFieldsStandAtTheirBits := by
  refine ⟨by decide, fun s => ⟨rfl, ?window, ?status, ?frameInfo, ?cksum, ?pos, ?aux, ?payClass, ?fieldValid, ?enums, ?temp,
    ?misc, ?setFlags⟩⟩
  case enums =>
    intro rfg h
    simp only [List.mem_cons, List.not_mem_nil, or_false] at h
    obtain rfl | rfl | rfl := h
    · exact enumWord_fields s.record.power s.record.mode
    · exact enumWord_fields s.record.fan s.record.vane
    · exact enumWord_fields s.record.wideVane s.record.isee
  all_goals
    simp only [regWord, statusWord, frameInfoWord, cksumWord, posWord, auxWord, payClassWord, fieldValidWord, tempWord,
      miscWord, setFlagsWord, getLsbD_eq_iff_extractLsb', BitVec.extractLsb'_append_eq_of_le,
      BitVec.extractLsb'_append_eq_right, BitVec.extractLsb'_eq_self, Nat.reduceLeDiff, Nat.reduceSub, BitVec.ofBool_false,
      BitVec.ofNat_eq_ofNat, and_self]

end Sys2Proof.Machine
end

section
/-! PROOFS. The statements of 20_memory.md. The host port is a case split on where an access begins and whether its shape is
legal, one rule for each case. That a command reads nothing outside its window or its payload is shown function by function:
two states whose window, or payload, reads the same give the same values. -/

namespace Sys2Proof.Machine

/-! ### The host port's address map and shapes -/

theorem inIbuf_eq_true_iff {s : State} {a : Nat} :
    inIbuf s a = true ↔ ibufBase ≤ a ∧ a < ibufBase + s.build.bufCap := by
  simp [inIbuf]

/-- No register, CMD among them, begins in IBUF (20_memory.md R61). -/
theorem le_of_inIbuf {s : State} {a : Nat} (place : inIbuf s a = true) : 0x40 ≤ a :=
  Nat.le_trans (by decide) (inIbuf_eq_true_iff.mp place).1

/-- An access to IBUF is legal when it is naturally aligned and ends inside IBUF (20_memory.md R63). -/
theorem legal_iff_of_inIbuf {s : State} {a : Nat} {n : AccessSize} (place : inIbuf s a = true) :
    legal s a n = true ↔ a % sizeBytes n = 0 ∧ a + sizeBytes n ≤ ibufBase + s.build.bufCap := by
  have notReg : ¬a < 0x40 := Nat.not_lt.mpr (le_of_inIbuf place)
  simp [legal, notReg, place]

/-- An access to a register is legal when it has 4 bytes at a multiple of 4 (20_memory.md R63). -/
theorem legal_iff_of_lt {s : State} {a : Nat} {n : AccessSize} (h : a < 0x40) :
    legal s a n = true ↔ n = .four ∧ a % 4 = 0 := by
  simp [legal, h]

theorem sizeBytes_pos (n : AccessSize) : 0 < sizeBytes n := by cases n <;> decide

/-- An aligned access that lies in IBUF begins there and is legal. -/
theorem inIbuf_and_legal_of_fits {s : State} {a : Nat} {n : AccessSize} (lo : 0x400 ≤ a)
    (hi : a + sizeBytes n ≤ 0x400 + s.build.bufCap) (aligned : a % sizeBytes n = 0) :
    inIbuf s a = true ∧ legal s a n = true := by
  have pos := sizeBytes_pos n
  have place : inIbuf s a = true := inIbuf_eq_true_iff.mpr ⟨lo, by simp only [ibufBase]; omega⟩
  exact ⟨place, (legal_iff_of_inIbuf place).mpr ⟨aligned, hi⟩⟩

/-- No register begins at 0x040 or above (10_state.md R22). -/
theorem regAt_eq_none {a : Nat} (h : 0x40 ≤ a) : regAt a = none := by
  refine List.find?_eq_none.mpr fun r _ e => ?_
  have below : regOffset r < 0x40 := by cases r <;> decide
  have := eq_of_beq e
  omega

/-! ### Accesses without effect -/

theorem memRead_illegal {s : State} {a : Offset} {n : AccessSize} (h : ¬legal s a.toNat n = true) :
    memRead s a n = 0#32 := if_neg h

theorem memWrite_illegal {s : State} {a : Offset} {n : AccessSize} (v : Word) (h : ¬legal s a.toNat n = true) :
    memWrite s a n v = s := if_neg h

/-- A reserved offset reads 0 (20_memory.md R62). -/
theorem memRead_reserved {s : State} {a : Offset} (n : AccessSize) (notReg : 0x40 ≤ a.toNat)
    (outside : inIbuf s a.toNat = false) : memRead s a n = 0#32 := by
  simp [memRead, outside, regAt_eq_none notReg]

/-- A write at a reserved offset is ignored (20_memory.md R62). -/
theorem memWrite_reserved {s : State} {a : Offset} (n : AccessSize) (v : Word) (notReg : 0x40 ≤ a.toNat)
    (outside : inIbuf s a.toNat = false) : memWrite s a n v = s := by
  have cmd : a.toNat ≠ 0x000 := by omega
  have base : a.toNat ≠ 0x008 := by omega
  have len : a.toNat ≠ 0x00C := by omega
  simp [memWrite, outside, cmd, base, len]

/-- Settles O46: the shapes are illegal, or the offset is no register's and not in IBUF. -/
theorem illegalAndReservedAccessesHaveNoEffect : Obligations.IllegalAndReservedAccessesHaveNoEffect := by
  intro s a n v h
  have illegal (h : ¬legal s a.toNat n = true) : memRead s a n = 0#32 ∧ memWrite s a n v = s :=
    ⟨memRead_illegal h, memWrite_illegal v h⟩
  have reserved (notReg : 0x40 ≤ a.toNat) (out : a.toNat < 0x400 ∨ 0x400 + s.build.bufCap ≤ a.toNat) :
      memRead s a n = 0#32 ∧ memWrite s a n v = s := by
    have outside : inIbuf s a.toNat = false := by
      rw [← Bool.not_eq_true, inIbuf_eq_true_iff]
      simp only [ibufBase]
      omega
    exact ⟨memRead_reserved n notReg outside, memWrite_reserved n v notReg outside⟩
  rcases h with ⟨reg, shape⟩ | ⟨lo, hi, shape⟩ | ⟨lo, hi⟩ | past
  · refine illegal fun hl => ?_
    obtain ⟨four, aligned⟩ := (legal_iff_of_lt reg).mp hl
    exact shape.elim (· four) (· aligned)
  · refine illegal fun hl => ?_
    obtain ⟨aligned, ends⟩ := (legal_iff_of_inIbuf (inIbuf_eq_true_iff.mpr ⟨lo, hi⟩)).mp hl
    exact shape.elim (· aligned) (Nat.not_lt.mpr ends)
  · exact reserved lo (.inl hi)
  · exact reserved (by omega) (.inr past)

/-- Settles O45: every write that has an effect finds the engine idle. -/
theorem writesWhileBusyAreIgnored : Obligations.WritesWhileBusyAreIgnored := by
  intro s a n v busy
  have notIdle : s.status.busy ≠ false := by simp [busy]
  rcases memWrite_cases s a n v with e | ⟨idle, -⟩ | ⟨idle, -⟩ | ⟨idle, -⟩ | ⟨idle, -⟩
  · exact e
  all_goals exact absurd idle notIdle

/-! ### Reads and writes of IBUF -/

/-- A legal write to IBUF of an idle machine is carried out (20_memory.md R67). -/
theorem memWrite_ibuf {s : State} {a : Offset} {n : AccessSize} (v : Word) (idle : s.status.busy = false)
    (place : inIbuf s a.toNat = true) (shape : legal s a.toNat n = true) : memWrite s a n v = storeIbuf s a n v := by
  have cmd : a.toNat ≠ 0x000 := Nat.ne_of_gt (Nat.lt_of_lt_of_le (by decide) (le_of_inIbuf place))
  simp [memWrite, storeIbuf, shape, cmd, idle, place]

theorem memRead_ibuf {s : State} {a : Offset} {n : AccessSize} (place : inIbuf s a.toNat = true)
    (shape : legal s a.toNat n = true) : memRead s a n = ibufLanes s (a.toNat - ibufBase) (sizeBytes n) := by
  simp [memRead, shape, place]

/-- A store puts lane `k` of the value into byte `k` of the access (20_memory.md R65). -/
theorem read_storeIbuf_inside (s : State) (a : Offset) {n : AccessSize} (v : Word) {k : Nat} (h : k < sizeBytes n) :
    Memory.read (storeIbuf s a n v).ibuf (a.toNat - ibufBase + k) = some (lane v k) := by
  have inside : k < (writeBytes n v).length := by rwa [writeBytes_length]
  have byte : (writeBytes n v)[k] = lane v k := by simp [writeBytes]
  rw [← byte]
  exact Memory.read_writeAll_inside (writeBytes n v) s.ibuf inside

/-- A store leaves every byte outside the access alone. -/
theorem read_storeIbuf_outside (s : State) (a : Offset) (n : AccessSize) (v : Word) {j : Nat}
    (h : j < a.toNat - ibufBase ∨ a.toNat - ibufBase + sizeBytes n ≤ j) :
    Memory.read (storeIbuf s a n v).ibuf j = Memory.read s.ibuf j :=
  Memory.read_writeAll_other (writeBytes n v) s.ibuf (by rwa [writeBytes_length])

/-- Settles O44: the write is a store, and a store is described byte by byte. -/
theorem ibufWriteStoresItsLanesOnly : Obligations.IbufWriteStoresItsLanesOnly := by
  intro s a n v idle lo hi aligned
  obtain ⟨place, shape⟩ := inIbuf_and_legal_of_fits lo hi aligned
  rw [memWrite_ibuf v idle place shape]
  exact ⟨rfl, fun k hk => read_storeIbuf_inside s a v hk, fun j hj => read_storeIbuf_outside s a n v hj⟩

/-- A bit of an OR over a list is set when it is set in one of the words. -/
theorem getLsbD_foldr_or (f : Nat → Word) (ks : List Nat) (j : Nat) :
    (ks.foldr (fun k w => w ||| f k) 0#32).getLsbD j = ks.any fun k => (f k).getLsbD j := by
  induction ks with
  | nil => simp
  | cons k ks ih => simp [ih, Bool.or_comm]

/-- Lane `k`, shifted back to its place, holds bits 8k+7:8k of the word (20_memory.md R65). -/
theorem getLsbD_lane_shiftLeft (v : Word) (k j : Nat) :
    ((lane v k).setWidth 32 <<< (8 * k)).getLsbD j = true ↔ (8 * k ≤ j ∧ j < 8 * k + 8) ∧ v.getLsbD j = true := by
  rw [BitVec.getLsbD_shiftLeft, BitVec.getLsbD_setWidth, lane, BitVec.getLsbD_extractLsb']
  rcases Nat.lt_or_ge j (8 * k) with below | above
  · simp [below]
  · obtain ⟨d, rfl⟩ := Nat.exists_eq_add_of_le above
    have inWord : v.getLsbD (8 * k + d) = true → 8 * k + d < 32 := BitVec.lt_of_getLsbD
    grind

/-- Bytes that are the lanes of a value read as its low bits. -/
theorem ibufLanes_of_lanes {s : State} {i n : Nat} {v : Word} (h : ∀ k, k < n → s.ibufByte (i + k) = lane v k) :
    (ibufLanes s i n).toNat = v.toNat % 2 ^ (8 * n) := by
  apply Nat.eq_of_testBit_eq
  intro j
  rw [Nat.testBit_mod_two_pow, BitVec.testBit_toNat, BitVec.testBit_toNat, ibufLanes, getLsbD_foldr_or, Bool.eq_iff_iff]
  simp only [List.any_eq_true, List.mem_range, Bool.and_eq_true, decide_eq_true_eq]
  constructor
  · rintro ⟨k, hk, bit⟩
    rw [h k hk, getLsbD_lane_shiftLeft] at bit
    exact ⟨by omega, bit.2⟩
  · rintro ⟨hj, bit⟩
    refine ⟨j / 8, by omega, ?_⟩
    rw [h (j / 8) (by omega), getLsbD_lane_shiftLeft]
    exact ⟨by omega, bit⟩

/-- Settles O43: the bytes read are the lanes that were stored, and each lane goes back to its place. -/
theorem ibufReadsBackWhatWasWritten : Obligations.IbufReadsBackWhatWasWritten := by
  intro s a n v idle lo hi aligned
  obtain ⟨place, shape⟩ := inIbuf_and_legal_of_fits lo hi aligned
  rw [memWrite_ibuf v idle place shape, memRead_ibuf (s := storeIbuf s a n v) place shape]
  exact ibufLanes_of_lanes fun k hk => ibufByte_of_read (read_storeIbuf_inside s a v hk)

/-! ### Every host event is a step -/

/-- DONE is bit 1 of STATUS (10_state.md R24). -/
theorem statusWord_getLsbD_done (x : Status) : (statusWord x).getLsbD 1 = x.done := by
  simp only [statusWord, getLsbD_eq_iff_extractLsb', BitVec.extractLsb'_append_eq_of_le, BitVec.extractLsb'_append_eq_right,
    Nat.reduceLeDiff, Nat.reduceSub]

/-- A poll of WAIT reads STATUS, and comes again after the engine's turn unless DONE is 1 (30_encoding.md R121). -/
theorem waitPoll_eq (s : State) : waitPoll s = { s with
    inputs := if s.status.done then s.inputs else .engine :: .wait :: s.inputs
    readData := regWord s .status
    draws := s.draws + 1 } := by
  have data : memRead s 0x004#11 .four = regWord s .status := memRead_reg (r := .status) rfl
  have done : (regWord s .status).getLsbD 1 = s.status.done := statusWord_getLsbD_done s.status
  simp only [waitPoll, hostRead, data, done]
  split <;> rfl

/-- Bits `hi` down to `lo` of a word, as a number. -/
theorem fieldOf_eq (w : Word) (hi lo : Nat) : fieldOf w hi lo = (w.extractLsb' lo (hi + 1 - lo)).toNat := by
  rw [fieldOf, BitVec.extractLsb'_toNat, Nat.shiftRight_eq_div_pow]

/-- EXPECT reads the register and marks a failure when the field is another number (30_encoding.md R121). -/
theorem expectRead_eq (s : State) (a : Offset) (hi lo v : Nat) : expectRead s a hi lo v = { s with
    readData := memRead s a .four
    expectFailed := s.expectFailed || decide (((memRead s a .four).extractLsb' lo (hi + 1 - lo)).toNat ≠ v)
    draws := s.draws + 1 } := by
  have mark : (fieldOf (memRead s a .four) hi lo != v) =
      decide (((memRead s a .four).extractLsb' lo (hi + 1 - lo)).toNat ≠ v) := by
    rw [fieldOf_eq, Bool.eq_iff_iff, bne_iff_ne, decide_eq_true_eq]
  simp only [expectRead, hostRead, mark]

/-- Settles O7, event by event. -/
theorem hostEventsAreSteps : Obligations.HostEventsAreSteps := by
  intro s is
  refine ⟨fun a n e => ?read, fun a n v e => ?write, fun e => ?reset, fun e => ?wait, fun a hi lo v e => ?expect,
    fun idle e => ?rest, fun idle e => ?turn⟩
  case read => rw [step, e]; rfl
  case write => rw [step, e]; rfl
  case reset => rw [step, e]; rfl
  case wait => rw [step, e]; exact congrArg _ (waitPoll_eq { s with inputs := is })
  case expect => rw [step, e]; exact congrArg _ (expectRead_eq { s with inputs := is } a hi lo v)
  case rest => rw [step, e]; simp [engineTurn, idle]
  case turn => rw [step, e]; simp [inputStep, engineTurn, idle]

/-! ### Every command ends with `finish` -/

/-- What every command keeps up to its end: LAST_OP, IBUF, the window registers, the build and the surroundings. -/
structure KeepsInputs (s u : State) : Prop where
  lastOp       : u.status.lastOp = s.status.lastOp
  ibuf         : u.ibuf = s.ibuf
  winBase      : u.winBase = s.winBase
  winLen       : u.winLen = s.winLen
  build        : u.build = s.build
  inputs       : u.inputs = s.inputs
  readData     : u.readData = s.readData
  expectFailed : u.expectFailed = s.expectFailed

theorem KeepsInputs.refl (s : State) : KeepsInputs s s := ⟨rfl, rfl, rfl, rfl, rfl, rfl, rfl, rfl⟩

theorem KeepsInputs.setPosition {s u : State} (h : KeepsInputs s u) (rest needed junk : Nat) :
    KeepsInputs s (u.setPosition rest needed junk) := { h with }

theorem KeepsInputs.setRecord {s u : State} (h : KeepsInputs s u) (r : Record) :
    KeepsInputs s { u with record := r } := { h with }

theorem KeepsInputs.parseStart {s u : State} (h : KeepsInputs s u) : KeepsInputs s (parseStart u) := { h with }

theorem KeepsInputs.clearFrame {s u : State} (h : KeepsInputs s u) : KeepsInputs s u.clearFrame := { h with }

theorem KeepsInputs.setAux {s u : State} (h : KeepsInputs s u) (x : Aux) : KeepsInputs s { u with aux := x } :=
  { h with }

theorem KeepsInputs.reported {s u : State} (h : KeepsInputs s u) : KeepsInputs s (reported u) := { h with }

theorem KeepsInputs.setFrameValid {s u : State} (h : KeepsInputs s u) (v : Bool) :
    KeepsInputs s (u.setFrameValid v) := { h with }

/-- The command is over with a result code, and kept the inputs on its way (40_command_interface.md R143). -/
def EndsFrom (s t : State) : Prop := ∃ code u, t = finish code u ∧ KeepsInputs s u

theorem execScan_endsFrom (s : State) : ∃ t, execScan s = .next t ∧ EndsFrom s t := by
  have k := KeepsInputs.refl s
  rcases execScan_cases s with ⟨-, _, -, -, -, e⟩ | ⟨-, -, e⟩ | ⟨-, e⟩
  · exact ⟨_, e, _, _, rfl, k.setPosition ..⟩
  · exact ⟨_, e, _, _, rfl, k.setPosition ..⟩
  · exact ⟨_, e, _, _, rfl, k⟩

theorem pCheck_endsFrom {s u : State} (k : KeepsInputs s u) : EndsFrom s (pCheck u) := by
  rcases pCheck_cases u with ⟨-, e⟩ | ⟨-, e⟩
  · exact ⟨_, _, e, k.reported.setFrameValid true⟩
  · exact ⟨_, _, e, k.reported⟩

theorem pWin_endsFrom {s u : State} (k : KeepsInputs s u) : EndsFrom s (pWin u) := by
  rcases pWin_cases u with ⟨-, e⟩ | ⟨-, t, rfl, ⟨-, e⟩ | ⟨-, -, e⟩ | ⟨-, -, -, e⟩ | ⟨-, -, e⟩⟩
  · exact ⟨_, _, e, k.clearFrame⟩
  · exact ⟨_, _, e, (k.setAux _).clearFrame.setPosition ..⟩
  · exact ⟨_, _, e, (k.setAux _).clearFrame.setPosition ..⟩
  · exact ⟨_, _, e, (k.setAux _).clearFrame.setPosition ..⟩
  · exact e ▸ pCheck_endsFrom (k.setAux _)

theorem runDecoder_endsFrom (d : State → Option Record) (s : State) : EndsFrom s (runDecoder d s) := by
  have k := KeepsInputs.refl s
  rcases runDecoder_cases d s with ⟨-, e⟩ | ⟨-, ⟨r, -, e⟩ | ⟨-, e⟩⟩
  · exact ⟨_, _, e, k⟩
  · exact ⟨_, _, e, k.setRecord r⟩
  · exact ⟨_, _, e, k.setRecord _⟩

/-- Every instruction answers a next state, and it ends with `finish` (40_command_interface.md R143; 60_exceptions.md
R418). -/
theorem exec_endsFrom (i : Instr) (s : State) : ∃ t, exec i s = .next t ∧ EndsFrom s t := by
  have k := KeepsInputs.refl s
  by_cases row : isDecodeRow i = true
  · obtain ⟨d, e⟩ := exec_decodeRow i s row
    exact ⟨_, e, runDecoder_endsFrom d s⟩
  · cases i with
    | nop => exact ⟨_, rfl, _, _, rfl, k⟩
    | scan => exact execScan_endsFrom s
    | parse => exact ⟨_, rfl, pWin_endsFrom k.parseStart⟩
    | reserved4 | reserved5 | reserved6 | reserved7 => exact ⟨_, rfl, _, _, rfl, k⟩
    | _ => exact absurd rfl row

/-- Settles O10: `finish` clears BUSY and sets DONE, and nothing before it touched the inputs. -/
theorem everyCommandEndsCompleted : Obligations.EveryCommandEndsCompleted := by
  intro i s t h
  obtain ⟨t', e, code, u, rfl, keeps⟩ := exec_endsFrom i s
  cases e.symm.trans h
  exact ⟨rfl, rfl, keeps.lastOp, keeps.ibuf, keeps.winBase, keeps.winLen, keeps.build, keeps.inputs, keeps.readData,
    keeps.expectFailed⟩

/-! ### SCAN and PARSE read the window only -/

/-- The window is the same and reads the same in both states. -/
structure SameWindow (s t : State) : Prop where
  winBase : t.winBase = s.winBase
  winLen  : t.winLen = s.winLen
  build   : t.build = s.build
  bytes   : ∀ k, k < s.winLen.toNat → t.window k = s.window k

theorem SameWindow.windowLegal {s t : State} (h : SameWindow s t) : t.windowLegal = s.windowLegal := by
  simp only [State.windowLegal, h.winBase, h.winLen, h.build]

theorem SameWindow.firstMarker {s t : State} (h : SameWindow s t) : firstMarker t = firstMarker s := by
  unfold Machine.firstMarker
  rw [h.winLen]
  exact List.find?_congr fun k hk => by rw [h.bytes k (List.mem_range.mp hk)]

/-- The hint of P_AVAIL reads the length byte only when the window holds it (42_frame_parser.md R200). -/
theorem SameWindow.neededShort {s t : State} (h : SameWindow s t) : neededShort t = neededShort s := by
  simp only [Machine.neededShort, h.winLen]
  split
  · rw [h.bytes 4 (by omega)]
  · rfl

/-- P_HDR comes after P_AVAIL, so the three fixed bytes lie in the window. -/
theorem SameWindow.headerMismatch {s t : State} (h : SameWindow s t) (six : 6 ≤ s.winLen.toNat) :
    headerMismatch t = headerMismatch s := by
  simp only [Machine.headerMismatch, h.bytes 0 (by omega), h.bytes 2 (by omega), h.bytes 3 (by omega)]

theorem SameWindow.windowPayload {s t : State} (h : SameWindow s t) {len : Nat} (fits : 5 + len ≤ s.winLen.toNat) :
    windowPayload t len = windowPayload s len :=
  List.map_congr_left fun k hk => h.bytes (5 + k) (by have := List.mem_range.mp hk; omega)

/-- Another IBUF that holds the same bytes in the window. -/
theorem sameWindow_of_read_eq {s : State} {m : List Host.Cell}
    (h : ∀ k, k < s.winLen.toNat →
      Memory.read m (s.winBase.toNat + k) = Memory.read s.ibuf (s.winBase.toNat + k)) :
    SameWindow s { s with ibuf := m } where
  winBase := rfl
  winLen  := rfl
  build   := rfl
  bytes   := fun k hk => ibufByte_congr (h k hk) rfl

/-- P_CHECK reports the frame, and CK_OK alone decides how it ends (42_frame_parser.md R199). -/
theorem pCheck_eq (s : State) :
    pCheck s = if (reported s).cksum.ckOk then finish .ok ((reported s).setFrameValid true)
      else finish .checksumMismatch (reported s) := rfl

section
variable {s : State} {m : List Host.Cell}

theorem execScan_setIbuf {t : State} (h : SameWindow s { s with ibuf := m }) (e : execScan s = .next t) :
    execScan { s with ibuf := m } = .next { t with ibuf := m } := by
  unfold execScan at e ⊢
  rw [h.windowLegal, h.firstMarker]
  cases hw : s.windowLegal with
  | false => simp only [hw] at e; cases e; rfl
  | true =>
    simp only [hw, if_true] at e ⊢
    cases hk : firstMarker s with
    | none => simp only [hk] at e; cases e; rfl
    | some k => simp only [hk] at e; cases e; rfl

/-- What P_CHECK reports lies in the window that P_LEN found long enough. -/
theorem reported_setIbuf (h : SameWindow s { s with ibuf := m }) (fits : 6 + (s.window 4).toNat ≤ s.winLen.toNat) :
    reported { s with ibuf := m } = { reported s with ibuf := m } := by
  simp only [reported, h.bytes 1 (by omega), h.bytes 4 (by omega), h.bytes (5 + (s.window 4).toNat) (by omega),
    h.windowPayload (len := (s.window 4).toNat) (by omega)]

theorem pCheck_setIbuf (h : SameWindow s { s with ibuf := m }) (fits : 6 + (s.window 4).toNat ≤ s.winLen.toNat) :
    pCheck { s with ibuf := m } = { pCheck s with ibuf := m } := by
  rw [pCheck_eq, pCheck_eq, reported_setIbuf h fits]
  dsimp only
  split <;> rfl

theorem pLen_setIbuf (h : SameWindow s { s with ibuf := m }) (six : 6 ≤ s.winLen.toNat) :
    pLen { s with ibuf := m } = { pLen s with ibuf := m } := by
  simp only [pLen, h.bytes 4 (by omega)]
  split
  · rfl
  · next fits => exact pCheck_setIbuf h (by omega)

theorem pHdr_setIbuf (h : SameWindow s { s with ibuf := m }) (six : 6 ≤ s.winLen.toNat) :
    pHdr { s with ibuf := m } = { pHdr s with ibuf := m } := by
  simp only [pHdr, h.headerMismatch six]
  split
  · rfl
  · exact pLen_setIbuf h six

theorem pAvail_setIbuf (h : SameWindow s { s with ibuf := m }) :
    pAvail { s with ibuf := m } = { pAvail s with ibuf := m } := by
  simp only [pAvail, h.neededShort]
  split
  · rfl
  · next six => exact pHdr_setIbuf h (by omega)

theorem pWin_setIbuf (h : SameWindow s { s with ibuf := m }) :
    pWin { s with ibuf := m } = { pWin s with ibuf := m } := by
  simp only [pWin, h.windowLegal]
  split
  · exact pAvail_setIbuf (s := { s with aux := { s.aux with junkLen := 0#16 } }) { h with }
  · rfl

end

/-! ### DECODE reads the payload only -/

/-- The frame registers and the build are the same, and the payload reads the same, in both states. -/
structure SamePayload (s t : State) : Prop where
  frameInfo : t.frameInfo = s.frameInfo
  build     : t.build = s.build
  bytes     : ∀ k, k < s.payloadLen → t.payload k = s.payload k

theorem SamePayload.refl (s : State) : SamePayload s s := ⟨rfl, rfl, fun _ _ => rfl⟩

theorem SamePayload.payloadLen {s t : State} (h : SamePayload s t) : t.payloadLen = s.payloadLen := by
  simp only [State.payloadLen, h.frameInfo]

/-- The bounded read looks at no byte outside the payload (44_payload_decode.md R271). -/
theorem SamePayload.rd {s t : State} (h : SamePayload s t) (i : Nat) : t.rd i = s.rd i := by
  rw [rd_eq, rd_eq, h.payloadLen]
  split
  · rw [h.bytes i ‹_›]
  · rfl

theorem SamePayload.startRecord {s t : State} (h : SamePayload s t) : startRecord t = startRecord s := by
  simp only [Machine.startRecord, h.frameInfo]

theorem SamePayload.girTag {s t : State} (h : SamePayload s t) : girTag t = girTag s := h.rd 0

theorem SamePayload.girStart {s t : State} (h : SamePayload s t) : girStart t = girStart s := by
  simp only [Machine.girStart, h.startRecord, h.girTag]

/-- A decoder whose record depends on the frame registers, the build and the payload's bytes alone. -/
def ReadsPayloadOnly (d : State → Option Record) : Prop := ∀ s t, SamePayload s t → d t = d s

theorem setRequestDecoder_readsPayloadOnly : ReadsPayloadOnly setRequestDecoder := fun s t h => by
  simp only [setRequestDecoder, setRequestFields, h.rd, h.startRecord, h.build]

theorem getInfoRequestDecoder_readsPayloadOnly : ReadsPayloadOnly getInfoRequestDecoder := fun s t h => by
  simp only [getInfoRequestDecoder, h.rd, h.startRecord]

theorem connectRequestDecoder_readsPayloadOnly : ReadsPayloadOnly connectRequestDecoder := fun s t h => by
  simp only [connectRequestDecoder, h.rd, h.startRecord]

theorem setResponseDecoder_readsPayloadOnly : ReadsPayloadOnly setResponseDecoder :=
  fun _ _ h => congrArg some h.startRecord

theorem connectResponseDecoder_readsPayloadOnly : ReadsPayloadOnly connectResponseDecoder := fun s t h => by
  simp only [connectResponseDecoder, h.rd, h.startRecord]

theorem unknownDecoder_readsPayloadOnly : ReadsPayloadOnly unknownDecoder :=
  fun _ _ h => congrArg some h.startRecord

/-- The variants' direct reads are guarded by the payload's length (44_payload_decode.md R285). -/
theorem settingsDecoder_readsPayloadOnly : ReadsPayloadOnly settingsDecoder := fun s t h => by
  simp only [settingsDecoder, h.payloadLen, h.girStart]
  split
  · next twelve => simp (disch := omega) only [settingsRecord, h.build, h.bytes]
  · rfl

theorem roomTemperatureDecoder_readsPayloadOnly : ReadsPayloadOnly roomTemperatureDecoder := fun s t h => by
  simp only [roomTemperatureDecoder, h.payloadLen, h.girStart]
  split
  · next seven => simp (disch := omega) only [roomTemperatureRecord, h.bytes]
  · rfl

theorem statusDecoder_readsPayloadOnly : ReadsPayloadOnly statusDecoder := fun s t h => by
  simp only [statusDecoder, h.payloadLen, h.girStart]
  split
  · next five => simp (disch := omega) only [statusRecord, h.bytes]
  · rfl

theorem timersDecoder_readsPayloadOnly : ReadsPayloadOnly timersDecoder :=
  fun _ _ h => congrArg some h.girStart

theorem girUnknownDecoder_readsPayloadOnly : ReadsPayloadOnly girUnknownDecoder :=
  fun _ _ h => congrArg some h.girStart

theorem girDecoderOf_readsPayloadOnly (tag : Option Byte) : ReadsPayloadOnly (girDecoderOf tag) := by
  unfold girDecoderOf
  split
  · exact girUnknownDecoder_readsPayloadOnly
  · repeat' split
    · exact settingsDecoder_readsPayloadOnly
    · exact roomTemperatureDecoder_readsPayloadOnly
    · exact timersDecoder_readsPayloadOnly
    · exact statusDecoder_readsPayloadOnly
    · exact girUnknownDecoder_readsPayloadOnly

theorem decoderOf_readsPayloadOnly (c : FrameClass) (tag : Option Byte) : ReadsPayloadOnly (decoderOf c tag) := by
  cases c with
  | setRequest => exact setRequestDecoder_readsPayloadOnly
  | getInfoRequest => exact getInfoRequestDecoder_readsPayloadOnly
  | connectRequest => exact connectRequestDecoder_readsPayloadOnly
  | setResponse => exact setResponseDecoder_readsPayloadOnly
  | getInfoResponse => exact girDecoderOf_readsPayloadOnly tag
  | connectResponse => exact connectResponseDecoder_readsPayloadOnly
  | unknown => exact unknownDecoder_readsPayloadOnly

/-- States with the same frame and payload bytes run the same decoder, which reads nothing else (44_payload_decode.md R271,
R273). -/
theorem exec_decodeRow_readsPayloadOnly {i : Instr} (row : isDecodeRow i = true) (s : State) :
    ∃ d, ReadsPayloadOnly d ∧ ∀ t, SamePayload s t → exec i t = .next (runDecoder d t) := by
  cases i with
  | decode =>
    refine ⟨_, decoderOf_readsPayloadOnly s.frameInfo.ftClass (girTag s), fun t h => ?_⟩
    rw [← h.frameInfo, ← h.girTag]
    exact execDecode_eq t
  | decodeGetInfoResponse =>
    refine ⟨_, girDecoderOf_readsPayloadOnly (girTag s), fun t h => ?_⟩
    rw [← h.girTag]
    exact execDecodeGetInfoResponse_eq t
  | decodeSetRequest => exact ⟨_, setRequestDecoder_readsPayloadOnly, fun _ _ => rfl⟩
  | decodeGetInfoRequest => exact ⟨_, getInfoRequestDecoder_readsPayloadOnly, fun _ _ => rfl⟩
  | decodeConnectRequest => exact ⟨_, connectRequestDecoder_readsPayloadOnly, fun _ _ => rfl⟩
  | decodeSetResponse => exact ⟨_, setResponseDecoder_readsPayloadOnly, fun _ _ => rfl⟩
  | decodeConnectResponse => exact ⟨_, connectResponseDecoder_readsPayloadOnly, fun _ _ => rfl⟩
  | decodeUnknown => exact ⟨_, unknownDecoder_readsPayloadOnly, fun _ _ => rfl⟩
  | girSettings => exact ⟨_, settingsDecoder_readsPayloadOnly, fun _ _ => rfl⟩
  | girRoomTemperature => exact ⟨_, roomTemperatureDecoder_readsPayloadOnly, fun _ _ => rfl⟩
  | girTimers => exact ⟨_, timersDecoder_readsPayloadOnly, fun _ _ => rfl⟩
  | girStatus => exact ⟨_, statusDecoder_readsPayloadOnly, fun _ _ => rfl⟩
  | girUnknown => exact ⟨_, girUnknownDecoder_readsPayloadOnly, fun _ _ => rfl⟩
  | nop | scan | parse | reserved4 | reserved5 | reserved6 | reserved7 => simp [isDecodeRow] at row

/-- Another IBUF that holds the same bytes in the payload. -/
theorem samePayload_of_read_eq {s : State} {m : List Host.Cell}
    (h : ∀ k, k < s.payloadLen →
      Memory.read m (s.pos.payloadOff.toNat + k) = Memory.read s.ibuf (s.pos.payloadOff.toNat + k)) :
    SamePayload s { s with ibuf := m } where
  frameInfo := rfl
  build     := rfl
  bytes     := fun k hk => ibufByte_congr (h k hk) rfl

/-- A decoder that answers the same record leaves the same registers. -/
theorem runDecoder_setIbuf {d : State → Option Record} {s : State} {m : List Host.Cell}
    (h : d { s with ibuf := m } = d s) :
    runDecoder d { s with ibuf := m } = { runDecoder d s with ibuf := m } := by
  simp only [runDecoder, h]
  split
  · split <;> rfl
  · rfl

/-- Settles O22: SCAN and PARSE ask for window bytes below WIN_LEN only, and DECODE's decoders for payload bytes below L
only. -/
theorem commandsReadOnlyWindowOrPayload : Obligations.CommandsReadOnlyWindowOrPayload := by
  intro s t m i h
  refine ⟨fun op agree => ?window, fun row agree => ?payload⟩
  case window =>
    have same := sameWindow_of_read_eq agree
    rcases op with rfl | rfl
    · exact execScan_setIbuf same h
    · cases h
      exact congrArg _ (pWin_setIbuf (s := parseStart s) { same with })
  case payload =>
    obtain ⟨d, reads, runs⟩ := exec_decodeRow_readsPayloadOnly row s
    have same := samePayload_of_read_eq agree
    cases (runs s (.refl s)).symm.trans h
    rw [runs _ same, runDecoder_setIbuf (reads s _ same)]

end Sys2Proof.Machine
end

section
/-! PROOFS. The statements of 30_encoding.md. Each decoder is described once: what it answers is a row of its
format, a byte outside the table selects the open row, and only the three low bits of a command word are seen. -/

namespace Sys2Proof.Machine

/-! ### The frame type and the tag -/

/-- `i` is a well-formed instruction of format `f` whose encoding is `bytes`. -/
abbrev IsRow (f : Format) (bytes : List Byte) (i : Instr) : Prop :=
  i.wellFormed = true ∧ formatOf i = f ∧ encode i = bytes

theorem wellFormed_decodeUnknown_iff {ft : Byte} :
    (Instr.decodeUnknown ft).wellFormed = true ↔ ft ∉ listedFrameTypes := by
  simp [Instr.wellFormed]

theorem wellFormed_girUnknown_iff {tag : Byte} : (Instr.girUnknown tag).wellFormed = true ↔ tag ∉ listedTags := by
  simp [Instr.wellFormed]

/-- A frame type outside the table selects the open row (30_encoding.md R97). -/
theorem decodeFrameType_of_not_mem {b : Byte} (h : b ∉ listedFrameTypes) : decodeFrameType b = .decodeUnknown b := by
  simp only [listedFrameTypes, List.mem_cons, List.not_mem_nil, or_false, not_or] at h
  simp [decodeFrameType, h]

/-- A tag outside the table selects the open row (44_payload_decode.md R290). -/
theorem decodeTag_of_not_mem {b : Byte} (h : b ∉ listedTags) : decodeTag b = .girUnknown b := by
  simp only [listedTags, List.mem_cons, List.not_mem_nil, or_false, not_or] at h
  simp [decodeTag, h]

theorem decodeFrameType_isRow (b : Byte) : IsRow .frame [b] (decodeFrameType b) := by
  by_cases listed : b ∈ listedFrameTypes
  · revert b; decide
  · rw [decodeFrameType_of_not_mem listed]
    exact ⟨wellFormed_decodeUnknown_iff.mpr listed, rfl, rfl⟩

theorem decodeTag_isRow (b : Byte) : IsRow .gir [b] (decodeTag b) := by
  by_cases listed : b ∈ listedTags
  · revert b; decide
  · rw [decodeTag_of_not_mem listed]
    exact ⟨wellFormed_girUnknown_iff.mpr listed, rfl, rfl⟩

/-! ### The command word -/

/-- OP lies in the byte at the lowest offset (20_memory.md R65, 30_encoding.md R90). -/
theorem commandOp_wordOfBytes (b0 b1 b2 b3 : Byte) : commandOp (wordOfBytes b0 b1 b2 b3) = b0.setWidth 3 := by
  rw [commandOp, wordOfBytes, BitVec.extractLsb'_append_eq_of_add_le (by decide),
    BitVec.setWidth_eq_extractLsb' (by decide)]

/-- A command word is read through the low three bits of its first byte. -/
theorem decode_cmd (b0 b1 b2 b3 : Byte) : decode .cmd [b0, b1, b2, b3] = .ok (decodeOp (b0.setWidth 3)) := by
  rw [← commandOp_wordOfBytes b0 b1 b2 b3]; rfl

/-- Each code of the opcode map is encoded as itself, the ignored bits 0 (30_encoding.md R91). -/
theorem decodeOp_isRow (op : BitVec 3) : IsRow .cmd (encodeOp (op.setWidth 8)) (decodeOp op) := by
  match op with
  | 0#3 | 1#3 | 2#3 | 3#3 | 4#3 | 5#3 | 6#3 | 7#3 => exact ⟨rfl, rfl, rfl⟩

/-- The first byte of a command word with its ignored bits cleared is OP and five zero bits (30_encoding.md R90). -/
theorem setWidth_setWidth_eq_and_seven (b : Byte) : (b.setWidth 3).setWidth 8 = b &&& 0x07#8 := by
  apply BitVec.eq_of_toNat_eq
  have cut : b.toNat % 8 < 256 := by omega
  simpa [Nat.mod_eq_of_lt cut] using (Nat.and_two_pow_sub_one_eq_mod b.toNat 3).symm

/-- Clearing the ignored bits keeps OP. -/
theorem commandOp_and_seven (w : Word) : commandOp (w &&& 0x7#32) = commandOp w := by
  rw [commandOp, BitVec.extractLsb'_and]
  exact BitVec.and_allOnes

/-- What a write to CMD does depends on the word through OP alone (30_encoding.md R117). -/
theorem memWrite_cmd (s : State) (w : Word) :
    memWrite s 0x000#11 .four w = if s.status.busy then s else s.accept (commandOp w) := rfl

/-! ### Decode and encode -/

/-- The open rows' operands lie outside the tables, so no listed row is selected for them. -/
theorem decode_encode {i : Instr} (wf : i.wellFormed = true) : decode (formatOf i) (encode i) = .ok i := by
  cases i with
  | decodeUnknown ft => exact congrArg _ (decodeFrameType_of_not_mem (wellFormed_decodeUnknown_iff.mp wf))
  | girUnknown tag => exact congrArg _ (decodeTag_of_not_mem (wellFormed_girUnknown_iff.mp wf))
  | _ => rfl

/-- Settles O1. -/
theorem decodeOfEncodeIsTheInstruction : Obligations.DecodeOfEncodeIsTheInstruction := fun _ => decode_encode

/-- Settles O2: each of the three decoders answers a row of its format, and a byte cut to OP and widened again is the byte
with its ignored bits cleared. -/
theorem encodeOfDecodeIsTheWord : Obligations.EncodeOfDecodeIsTheWord := by
  refine ⟨fun b0 b1 b2 b3 => ?command, fun b => ⟨_, rfl, decodeFrameType_isRow b⟩, fun b => ⟨_, rfl, decodeTag_isRow b⟩⟩
  case command =>
    rw [← setWidth_setWidth_eq_and_seven]
    exact ⟨_, decode_cmd b0 b1 b2 b3, decodeOp_isRow (b0.setWidth 3)⟩

/-- Settles O3: words that agree in bits 2:0 have the same OP, and neither the opcode map nor a CMD write sees more of
them. -/
theorem ignoredCommandBitsHaveNoEffect : Obligations.IgnoredCommandBitsHaveNoEffect := by
  intro w w' agree
  have op : commandOp w = commandOp w' := by rw [← commandOp_and_seven w, agree, commandOp_and_seven]
  exact ⟨congrArg decodeOp op, fun s => by rw [memWrite_cmd, memWrite_cmd, op]⟩

/-- Settles O4: the words without ignored bits are their rows' encodings, the two with ignored bits have their OP, and
CMD takes no single byte. -/
theorem writtenOutWordsDecodeToTheirRows : Obligations.WrittenOutWordsDecodeToTheirRows :=
  ⟨decode_encode (i := .nop) rfl, decode_encode (i := .scan) rfl, decode_encode (i := .parse) rfl,
    decode_cmd .., decode_cmd ..,
    decode_encode (i := .decodeSetRequest) rfl, decode_encode (i := .decodeUnknown 0x43#8) rfl,
    decode_encode (i := .girSettings) rfl, decode_encode (i := .girUnknown 0x04#8) rfl, rfl⟩

/-! ### The classes of the type bytes -/

/-- A frame type outside the table is of the class Unknown (30_encoding.md R97). -/
theorem classOfFrameType_of_not_mem {b : Byte} (h : b ∉ listedFrameTypes) : classOfFrameType b = .unknown := by
  simp only [listedFrameTypes, List.mem_cons, List.not_mem_nil, or_false, not_or] at h
  simp [classOfFrameType, h]

/-- An InfoType outside the table is of the class Unknown (30_encoding.md R98). -/
theorem classOfInfoType_of_not_mem {b : Byte} (h : b ∉ [0x02#8, 0x03#8, 0x04#8, 0x05#8, 0x06#8, 0x09#8]) :
    classOfInfoType b = .unknown := by
  simp only [List.mem_cons, List.not_mem_nil, or_false, not_or] at h
  simp [classOfInfoType, h]

theorem frameClassCode_ne_seven (c : FrameClass) : frameClassCode c ≠ 7#3 := by cases c <;> decide

theorem infoClassCode_ne_seven (c : InfoClass) : infoClassCode c ≠ 7#3 := by cases c <;> decide

/-- Settles O5: the listed bytes are the tables' rows, every other byte is Unknown, and no class has the code 7. -/
theorem typeBytesAreClassedByTheTables : Obligations.TypeBytesAreClassedByTheTables := by
  refine ⟨⟨rfl, rfl, rfl, rfl, rfl, rfl, fun b unlisted => ?frame, fun b => frameClassCode_ne_seven _⟩,
    ⟨rfl, rfl, rfl, rfl, rfl, rfl, fun b unlisted => ?info, fun b => infoClassCode_ne_seven _⟩⟩
  case frame => rw [classOfFrameType_of_not_mem unlisted, frameClassCode]
  case info => rw [classOfInfoType_of_not_mem unlisted, infoClassCode]

end Sys2Proof.Machine
end

section
/-! PROOFS. The statements of 40_command_interface.md. Acceptance and completion are one rule each, from which the runs of
NOP and of the reserved commands follow; a busy machine's step is split once, by the event that waits; and that SCAN and
PARSE give equal results on equal windows is shown along PARSE's chain of states. -/

namespace Sys2Proof.Machine

/-! ### The commands that write STATUS only -/

/-- NOP and the reserved commands. -/
abbrev statusOnlyCommands : List Instr := [.nop, .reserved4, .reserved5, .reserved6, .reserved7]

/-- They do nothing but end, each with a code of its own (40_command_interface.md R148, R149). -/
theorem exec_statusOnly {i : Instr} (h : i ∈ statusOnlyCommands) :
    ∃ code, ∀ s, exec i s = .next (finish code s) := by
  simp only [statusOnlyCommands, List.mem_cons, List.not_mem_nil, or_false] at h
  rcases h with rfl | rfl | rfl | rfl | rfl
  · exact ⟨.ok, fun _ => rfl⟩
  all_goals exact ⟨.illegalOp, fun _ => rfl⟩

/-- The four families of instructions by what they write (40_command_interface.md R146). -/
theorem instr_cases (i : Instr) :
    i ∈ statusOnlyCommands ∨ i = .scan ∨ i = .parse ∨ isDecodeRow i = true := by
  cases i with
  | nop | reserved4 | reserved5 | reserved6 | reserved7 => exact .inl (by decide)
  | scan => exact .inr (.inl rfl)
  | parse => exact .inr (.inr (.inl rfl))
  | _ => exact .inr (.inr (.inr rfl))

/-! ### Acceptance and completion -/

/-- The engine's turn on a busy machine, as the next step (40_command_interface.md R143). -/
theorem step_of_busy_of_nil {s : State} (busy : s.status.busy = true) (e : s.inputs = []) :
    step s = exec (pendingInstr s) s := by
  simp [step, e, engineTurn, busy]

theorem step_of_busy_of_engine {s : State} {is : List Input} (busy : s.status.busy = true)
    (e : s.inputs = .engine :: is) : step s = exec (pendingInstr s) { s with inputs := is } := by
  simp [step, e, inputStep, engineTurn, busy, pendingInstr]

/-- A run from the CMD write of an idle machine is the completion of the accepted command. -/
theorem runCommand_eq {s t : State} {w : Word} (idle : s.status.busy = false)
    (h : exec (decodeOp (commandOp w)) (s.accept (commandOp w)) = .next t) : runCommand w s = t := by
  have turn : engineTurn (s.accept (commandOp w)) = .next t := h
  simp [runCommand, memWrite_cmd, idle, turn]

/-- A word with bit 2 set names a reserved command (30_encoding.md R91; 40_command_interface.md R149). -/
theorem exec_decodeOp_of_bit_two {op : BitVec 3} (h : op.getLsbD 2 = true) (s : State) :
    exec (decodeOp op) s = .next (illegalOp s) := by
  rcases decodeOp_cases op with ⟨rfl, -⟩ | ⟨rfl, -⟩ | ⟨rfl, -⟩ | ⟨rfl, -⟩ | ⟨-, e⟩
  · exact absurd h (by decide)
  · exact absurd h (by decide)
  · exact absurd h (by decide)
  · exact absurd h (by decide)
  · exact e s

/-- Settles O6: the pending instruction is what the command word decodes to, and the engine's turn is its `exec`. -/
theorem stepRunsThePendingInstruction : Obligations.StepRunsThePendingInstruction := by
  intro s b0 b1 b2 b3 i busy op decoded
  have pending : pendingInstr s = i := by
    rw [decode_cmd, ← commandOp_wordOfBytes b0 b1 b2 b3, ← op] at decoded
    exact Except.ok.inj decoded
  exact pending ▸ ⟨step_of_busy_of_nil busy, fun _ => step_of_busy_of_engine busy⟩

/-- Settles O9. -/
theorem commandWriteIsAccepted : Obligations.CommandWriteIsAccepted := by
  intro s w
  rw [memWrite_cmd]
  exact ⟨fun busy => if_pos busy, fun idle => if_neg (by simp [idle])⟩

/-- Settles O12. -/
theorem nopCompletesWithOk : Obligations.NopCompletesWithOk := by
  have run (s : State) (idle : s.status.busy = false) :
      runCommand 0#32 s = finish .ok (s.accept 0#3) := runCommand_eq idle rfl
  refine ⟨fun _ => rfl, fun s idle => ?_, ?_⟩
  · rw [run s idle]; rfl
  · rw [run _ rfl]; rfl

/-- Settles O13: bit 2 of the word is bit 2 of OP, which only the reserved codes have. -/
theorem reservedCommandsCompleteWithIllegalOp : Obligations.ReservedCommandsCompleteWithIllegalOp := by
  have run (w : Word) (s : State) (idle : s.status.busy = false) (bit : w.getLsbD 2 = true) :
      runCommand w s = illegalOp (s.accept (commandOp w)) :=
    runCommand_eq idle (exec_decodeOp_of_bit_two (by simpa [commandOp] using bit) _)
  refine ⟨fun i s h => ?_, fun w s idle bit => ?_, ?_⟩
  · simp only [List.mem_cons, List.not_mem_nil, or_false] at h
    rcases h with rfl | rfl | rfl | rfl <;> rfl
  · rw [run w s idle bit]; rfl
  · rw [run _ _ rfl rfl]; rfl

/-! ### Every accepted command completes -/

/-- What one step does to a machine with a command pending: the command completes, reset discards it, or the first waiting
event passes and leaves STATUS alone, a poll of WAIT coming back behind the engine's turn. -/
inductive BusyStep (s t : State) : Prop where
  | completes (idle : t.status.busy = false) (done : t.status.done = true) (op : t.status.lastOp = s.status.lastOp)
  | discarded (idle : t.status.busy = false) {is : List Input} (event : s.inputs = .reset :: is)
  | passes {i : Input} {is : List Input} (event : s.inputs = i :: is) (status : t.status = s.status)
      (inputs : t.inputs = is ∨ t.inputs = .engine :: .wait :: is)

/-- The engine's turn completes the command, whatever events wait behind it. -/
theorem exec_pending_completes (s u : State) (op : u.status.lastOp = s.status.lastOp) :
    ∃ t, exec (pendingInstr s) u = .next t ∧ t.status.busy = false ∧ t.status.done = true ∧
      t.status.lastOp = s.status.lastOp := by
  obtain ⟨t, e, -⟩ := exec_endsFrom (pendingInstr s) u
  obtain ⟨idle, done, kept, -⟩ := everyCommandEndsCompleted _ _ _ e
  exact ⟨t, e, idle, done, kept.trans op⟩

theorem step_of_engine_completes {s : State} {is : List Input} (busy : s.status.busy = true)
    (e : s.inputs = .engine :: is) :
    ∃ t, step s = .next t ∧ t.status.busy = false ∧ t.status.done = true ∧ t.status.lastOp = s.status.lastOp := by
  rw [step_of_busy_of_engine busy e]
  exact exec_pending_completes s { s with inputs := is } rfl

/-- Every step of a busy machine is of one of the three kinds. -/
theorem busy_step {s : State} (busy : s.status.busy = true) : ∃ t, step s = .next t ∧ BusyStep s t := by
  cases ev : s.inputs with
  | nil =>
    obtain ⟨t, e, idle, done, op⟩ := exec_pending_completes s s rfl
    exact ⟨t, (step_of_busy_of_nil busy ev).trans e, .completes idle done op⟩
  | cons i is =>
    obtain ⟨read, write, reset, wait, expect, -⟩ := hostEventsAreSteps s is
    cases i with
    | read a n => exact ⟨_, read a n ev, .passes ev rfl (.inl rfl)⟩
    | write a n v =>
      have ignored : memWrite { s with inputs := is } a n v = { s with inputs := is } :=
        writesWhileBusyAreIgnored _ a n v busy
      exact ⟨_, write a n v ev, .passes ev (by rw [ignored]) (.inl (by rw [ignored]))⟩
    | engine =>
      obtain ⟨t, e, idle, done, op⟩ := step_of_engine_completes busy ev
      exact ⟨t, e, .completes idle done op⟩
    | reset => exact ⟨_, reset ev, .discarded rfl ev⟩
    | wait =>
      refine ⟨_, wait ev, .passes ev rfl ?_⟩
      cases s.status.done with
      | false => exact .inr rfl
      | true => exact .inl rfl
    | expect a hi lo v => exact ⟨_, expect a hi lo v ev, .passes ev rfl (.inl rfl)⟩

/-- A step, and then a run. -/
theorem run_succ {s t u : State} {k : Nat} (h : step s = .next t) (r : Host.Core.run Sys2Proof.core k t = .next u) :
    Host.Core.run Sys2Proof.core (k + 1) s = .next u := by
  have first : Sys2Proof.core.step s = .next t := h
  simp only [Host.Core.run, first, r]

theorem run_one {s t : State} (h : step s = .next t) : Host.Core.run Sys2Proof.core 1 s = .next t := run_succ h rfl

/-- Within `n` steps the machine is idle again, with the command completed unless a reset waits. -/
def EndsWithin (n : Nat) (s : State) : Prop :=
  ∃ k t, k ≤ n ∧ Host.Core.run Sys2Proof.core k s = .next t ∧ t.status.busy = false ∧
    (.reset ∉ s.inputs → t.status.done = true ∧ t.status.lastOp = s.status.lastOp)

/-- A step that leaves STATUS alone and brings no reset puts the end off by one step. -/
theorem EndsWithin.of_step {n : Nat} {s t : State} (h : step s = .next t) (status : t.status = s.status)
    (noReset : .reset ∉ s.inputs → .reset ∉ t.inputs) (ends : EndsWithin n t) : EndsWithin (n + 1) s := by
  obtain ⟨k, u, bound, run, idle, completed⟩ := ends
  exact ⟨k + 1, u, Nat.succ_le_succ bound, run_succ h run, idle, fun r => status ▸ completed (noReset r)⟩

/-- By induction on the waiting events: each that passes leaves one fewer, and a poll of WAIT is followed by the engine's
turn. -/
theorem busy_endsWithin {s : State} (busy : s.status.busy = true) : EndsWithin (s.inputs.length + 1) s := by
  generalize waiting : s.inputs = events
  induction events generalizing s with
  | nil =>
    obtain ⟨t, e, b⟩ := busy_step busy
    cases b with
    | completes idle done op => exact ⟨1, t, Nat.le_refl _, run_one e, idle, fun _ => ⟨done, op⟩⟩
    | discarded _ event => cases waiting.symm.trans event
    | passes event => cases waiting.symm.trans event
  | cons i is ih =>
    obtain ⟨t, e, b⟩ := busy_step busy
    cases b with
    | completes idle done op => exact ⟨1, t, by simp, run_one e, idle, fun _ => ⟨done, op⟩⟩
    | discarded idle event => exact ⟨1, t, by simp, run_one e, idle, fun r => absurd (by simp [event]) r⟩
    | passes event status inputs =>
      cases waiting.symm.trans event
      have busy' : t.status.busy = true := status ▸ busy
      rcases inputs with rest | poll
      · exact .of_step e status (by simp [waiting, rest]) (ih busy' rest)
      · obtain ⟨u, e', idle, done, op⟩ := step_of_engine_completes busy' poll
        exact .of_step e status (by simp [waiting, poll]) ⟨1, u, by simp, run_one e', idle, fun _ => ⟨done, op⟩⟩

/-- Settles O51. -/
theorem acceptedCommandsComplete : Obligations.AcceptedCommandsComplete := by
  intro s busy
  obtain ⟨k, t, bound, run, idle, completed⟩ := busy_endsWithin busy
  refine ⟨⟨k, t, bound, run, idle⟩, fun noReset => ⟨k, t, bound, run, idle, completed noReset⟩, fun u h stillBusy => ?_⟩
  obtain ⟨u', e, b⟩ := busy_step busy
  cases e.symm.trans h
  cases b with
  | completes _ _ op => exact op
  | discarded idle => simp [idle] at stillBusy
  | passes _ status => rw [status]

/-! ### The registers each command writes -/

/-- An illegal window passes the end of IBUF (42_frame_parser.md R196). -/
theorem windowLegal_eq_true_iff {s : State} :
    s.windowLegal = true ↔ s.winBase.toNat + s.winLen.toNat ≤ s.build.bufCap := by
  simp [State.windowLegal]

theorem pCheck_frame (s : State) : pCheck s = { s with
    status := (pCheck s).status, draws := (pCheck s).draws, frameInfo := (pCheck s).frameInfo
    cksum := (pCheck s).cksum, pos := (pCheck s).pos, aux := (pCheck s).aux } := by
  rcases pCheck_cases s with ⟨-, e⟩ | ⟨-, e⟩
  all_goals rw [e]; rfl

/-- After clear_decode(), PARSE writes STATUS, the frame registers, POS and AUX only (40_command_interface.md R146). -/
theorem pWin_frame (s : State) : pWin s = { s with
    status := (pWin s).status, draws := (pWin s).draws, frameInfo := (pWin s).frameInfo
    cksum := (pWin s).cksum, pos := (pWin s).pos, aux := (pWin s).aux } := by
  rcases pWin_cases s with ⟨-, e⟩ | ⟨-, t, rfl, ⟨-, e⟩ | ⟨-, -, e⟩ | ⟨-, -, -, e⟩ | ⟨-, -, e⟩⟩
  · rw [e]; rfl
  · rw [e]; rfl
  · rw [e]; rfl
  · rw [e]; rfl
  · rw [e]; exact pCheck_frame _

/-- Settles O11, family by family. -/
theorem commandsWriteOnlyTheirRegisters : Obligations.CommandsWriteOnlyTheirRegisters := by
  intro s t
  refine ⟨fun i only h => ?statusOnly, fun h => ?scan, fun h => ?parse, fun i row h => ?decode⟩
  case statusOnly =>
    obtain ⟨code, e⟩ := exec_statusOnly only
    cases (e s).symm.trans h
    exact ⟨rfl, rfl⟩
  case scan =>
    rcases execScan_cases s with ⟨legal, k, -, -, -, e⟩ | ⟨legal, -, e⟩ | ⟨-, e⟩
    · cases e.symm.trans h
      exact ⟨rfl, rfl, fun past => absurd (windowLegal_eq_true_iff.mp legal) (Nat.not_le.mpr past)⟩
    · cases e.symm.trans h
      exact ⟨rfl, rfl, fun past => absurd (windowLegal_eq_true_iff.mp legal) (Nat.not_le.mpr past)⟩
    · cases e.symm.trans h
      exact ⟨rfl, rfl, fun _ => ⟨rfl, rfl⟩⟩
  case parse =>
    cases h
    exact pWin_frame (parseStart s)
  case decode =>
    obtain ⟨d, e⟩ := exec_decodeRow i s row
    cases e.symm.trans h
    rcases runDecoder_cases d s with ⟨-, e⟩ | ⟨valid, ⟨r, -, e⟩ | ⟨-, e⟩⟩
    · rw [e]; exact ⟨rfl, rfl, fun _ => rfl⟩
    · rw [e]; exact ⟨rfl, rfl, fun invalid => by simp [valid] at invalid⟩
    · rw [e]; exact ⟨rfl, rfl, fun invalid => by simp [valid] at invalid⟩

/-! ### Equal inputs give equal results -/

/-- SCAN's and PARSE's results are the same in both states; on an illegal window REST_OFF and AUX are no results
(40_command_interface.md R146). -/
structure SamePosition (t t' : State) : Prop where
  result     : t'.status.result = t.status.result
  frameValid : t'.status.frameValid = t.status.frameValid
  position   : t.status.result ≠ .windowError → t'.pos.restOff = t.pos.restOff ∧ t'.aux = t.aux

/-- PARSE's results are the same in both states. -/
structure SameParseResults (t t' : State) : Prop extends SamePosition t t' where
  frameInfo  : t'.frameInfo = t.frameInfo
  cksum      : t'.cksum = t.cksum
  record     : t'.record = t.record
  payloadOff : t'.pos.payloadOff = t.pos.payloadOff

/-- Two states inside PARSE, past P_WIN, whose windows read the same. -/
structure SameParse (s t : State) : Prop extends SameWindow s t where
  frameValid : t.status.frameValid = s.status.frameValid
  record     : t.record = s.record
  junkLen    : t.aux.junkLen = s.aux.junkLen

theorem execScan_sameWindow {s s' t : State} (h : SameWindow s s') (valid : s'.status.frameValid = s.status.frameValid)
    (e : execScan s = .next t) : ∃ t', execScan s' = .next t' ∧ SamePosition t t' := by
  unfold execScan at e ⊢
  rw [h.windowLegal, h.firstMarker, h.winBase, h.winLen]
  cases hw : s.windowLegal with
  | false => simp only [hw] at e; cases e; exact ⟨_, rfl, rfl, valid, fun n => absurd rfl n⟩
  | true =>
    simp only [hw, if_true] at e ⊢
    cases hk : firstMarker s with
    | none => simp only [hk] at e; cases e; exact ⟨_, rfl, rfl, valid, fun _ => ⟨rfl, rfl⟩⟩
    | some k => simp only [hk] at e; cases e; exact ⟨_, rfl, rfl, valid, fun _ => ⟨rfl, rfl⟩⟩

/-- A PARSE that ends before P_CHECK clears the frame and gives a position. -/
theorem SameParse.clearFrame {s t : State} (h : SameParse s t) (code : ResultCode) (rest needed junk : Nat) :
    SameParseResults (finish code (s.clearFrame.setPosition rest needed junk))
      (finish code (t.clearFrame.setPosition rest needed junk)) where
  result     := rfl
  frameValid := h.frameValid
  position   := fun _ => ⟨rfl, rfl⟩
  frameInfo  := rfl
  cksum      := rfl
  record     := h.record
  payloadOff := rfl

/-- The frame that P_CHECK reports lies in the window. -/
theorem SameParse.reported {s t : State} (h : SameParse s t) (fits : 6 + (s.window 4).toNat ≤ s.winLen.toNat) :
    (reported t).frameInfo = (reported s).frameInfo ∧ (reported t).cksum = (reported s).cksum ∧
      (reported t).pos = (reported s).pos ∧ (reported t).aux = (reported s).aux := by
  simp only [Machine.reported, h.bytes 1 (by omega), h.bytes 4 (by omega),
    h.bytes (5 + (s.window 4).toNat) (by omega), h.windowPayload (len := (s.window 4).toNat) (by omega), h.winBase,
    h.junkLen, and_self]

theorem SameParse.pCheck {s t : State} (h : SameParse s t) (fits : 6 + (s.window 4).toNat ≤ s.winLen.toNat) :
    SameParseResults (pCheck s) (pCheck t) := by
  obtain ⟨info, ck, pos, aux⟩ := h.reported fits
  have position : (Machine.reported t).pos.restOff = (Machine.reported s).pos.restOff ∧
    (Machine.reported t).aux = (Machine.reported s).aux := ⟨congrArg _ pos, aux⟩
  rw [pCheck_eq, pCheck_eq, ck]
  split
  · exact ⟨⟨rfl, rfl, fun _ => position⟩, info, ck, h.record, congrArg _ pos⟩
  · exact ⟨⟨rfl, h.frameValid, fun _ => position⟩, info, ck, h.record, congrArg _ pos⟩

theorem SameParse.pLen {s t : State} (h : SameParse s t) (six : 6 ≤ s.winLen.toNat) :
    SameParseResults (pLen s) (pLen t) := by
  simp only [Machine.pLen, h.bytes 4 (by omega), h.winBase, h.winLen]
  split
  · exact h.clearFrame ..
  · next fits => exact h.pCheck (by omega)

theorem SameParse.pHdr {s t : State} (h : SameParse s t) (six : 6 ≤ s.winLen.toNat) :
    SameParseResults (pHdr s) (pHdr t) := by
  simp only [Machine.pHdr, h.headerMismatch six, h.winBase]
  split
  · exact h.clearFrame ..
  · exact h.pLen six

theorem SameParse.pAvail {s t : State} (h : SameParse s t) : SameParseResults (pAvail s) (pAvail t) := by
  simp only [Machine.pAvail, h.neededShort, h.winBase, h.winLen]
  split
  · exact h.clearFrame ..
  · next six => exact h.pHdr (by omega)

/-- PARSE's start makes FRAME_VALID and the record the same, and P_WIN the junk length (42_frame_parser.md R196). -/
theorem SameWindow.pWin_parseStart {s t : State} (h : SameWindow s t) :
    SameParseResults (pWin (parseStart s)) (pWin (parseStart t)) := by
  have same : SameWindow (parseStart s) (parseStart t) := { h with }
  simp only [pWin, same.windowLegal]
  split
  · exact SameParse.pAvail { same with frameValid := rfl, record := rfl, junkLen := rfl }
  · exact ⟨⟨rfl, rfl, fun n => absurd rfl n⟩, rfl, rfl, rfl, rfl⟩

/-- A decoder that answers the same ends the same, and a valid frame's record is the same. -/
theorem runDecoder_sameAnswer {d : State → Option Record} {s s' : State} (answer : d s' = d s)
    (start : startRecord s' = startRecord s) (valid : s'.status.frameValid = s.status.frameValid) :
    (runDecoder d s').status.result = (runDecoder d s).status.result ∧
      (runDecoder d s').status.frameValid = (runDecoder d s).status.frameValid ∧
      (s.status.frameValid = true → (runDecoder d s').record = (runDecoder d s).record) := by
  simp only [runDecoder, answer, start, valid]
  split
  · split <;> exact ⟨rfl, valid, fun _ => rfl⟩
  · next invalid => exact ⟨rfl, valid, fun v => absurd v invalid⟩

/-- Settles O42, family by family. -/
theorem resultsDependOnlyOnTheInputs : Obligations.ResultsDependOnlyOnTheInputs := by
  intro i s s' t window payload winBase winLen frameInfo payloadOff valid build h
  rcases instr_cases i with only | rfl | rfl | row
  · obtain ⟨code, e⟩ := exec_statusOnly only
    cases (e s).symm.trans h
    simp only [statusOnlyCommands, List.mem_cons, List.not_mem_nil, or_false] at only
    refine ⟨_, e s', rfl, valid, ?_⟩
    rcases only with rfl | rfl | rfl | rfl | rfl <;> simp [isDecodeRow]
  · have same : SameWindow s s' := ⟨winBase, winLen, build, window (.inl rfl)⟩
    obtain ⟨t', e, results⟩ := execScan_sameWindow same valid h
    exact ⟨t', e, results.result, results.frameValid, nofun, fun _ => results.position, nofun⟩
  · have same : SameWindow s s' := ⟨winBase, winLen, build, window (.inr rfl)⟩
    have results := same.pWin_parseStart
    cases h
    exact ⟨_, rfl, results.result, results.frameValid,
      fun _ => ⟨results.frameInfo, results.cksum, results.record, results.payloadOff⟩, fun _ => results.position, nofun⟩
  · have same : SamePayload s s' := ⟨frameInfo, build, payload row⟩
    obtain ⟨d, reads, runs⟩ := exec_decodeRow_readsPayloadOnly row s
    cases (runs s (.refl s)).symm.trans h
    obtain ⟨result, kept, record⟩ := runDecoder_sameAnswer (reads s s' same) same.startRecord valid
    refine ⟨_, runs s' same, result, kept, ?_, ?_, fun _ => record⟩
    · rintro rfl; cases row
    · rintro (rfl | rfl) <;> cases row

end Sys2Proof.Machine
end

section
/-! PROOFS. The statements of 41_checksum.md. The 32-bit sum is an exact natural number cut to 32 bits, so CHECKSUM
depends on that number modulo 256 alone, and one changed byte moves it by 1 to 255; PARSE of a whole frame is P_CHECK,
whose one comparison decides how it ends. -/

namespace Sys2Proof.Machine

/-! ### The sum as a natural number -/

/-- The exact sum of R170, without any wrap-around. -/
def exactSum (ft len : Byte) (p : List Byte) : Nat :=
  0xFC + ft.toNat + 0x01 + 0x30 + len.toNat + (p.map BitVec.toNat).sum

/-- Adding payload bytes to a 32-bit word adds their exact sum. -/
theorem foldl_add_setWidth (p : List Byte) (acc : Word) :
    p.foldl (fun sum b => sum + b.setWidth 32) acc = acc + BitVec.ofNat 32 (p.map BitVec.toNat).sum := by
  induction p generalizing acc with
  | nil => simp
  | cons b p ih =>
    rw [List.foldl_cons, ih, List.map_cons, List.sum_cons, BitVec.ofNat_add, ← BitVec.add_assoc, BitVec.ofNat_toNat]

theorem checksumSum_eq_ofNat (ft len : Byte) (p : List Byte) :
    checksumSum ft len p = BitVec.ofNat 32 (exactSum ft len p) := by
  simp only [checksumSum, foldl_add_setWidth, exactSum, BitVec.ofNat_add, BitVec.ofNat_toNat]

/-- CHECKSUM sees the exact sum through its low 8 bits alone (R170). -/
theorem checksum_eq_sub_ofNat (ft len : Byte) (p : List Byte) :
    checksum ft len p = 0xFC#8 - BitVec.ofNat 8 (exactSum ft len p) := by
  rw [checksum, checksumSum_eq_ofNat, BitVec.setWidth_ofNat_of_le (by decide)]

/-- The byte that stands as the checksum of bytes with sum `n` is the one that brings the sum to 0xFC modulo 256. -/
theorem eq_marker_sub_iff (rx : Byte) (n : Nat) :
    rx = 0xFC#8 - BitVec.ofNat 8 n ↔ (n + rx.toNat) % 256 = 0xFC := by
  rw [← BitVec.toNat_inj, BitVec.toNat_sub, BitVec.toNat_ofNat, BitVec.toNat_ofNat]
  have := rx.isLt
  omega

/-- Two CHECKSUMs are equal exactly when the exact sums agree modulo 256. -/
theorem checksum_eq_iff (ft len ft' len' : Byte) (p p' : List Byte) :
    checksum ft' len' p' = checksum ft len p ↔ exactSum ft' len' p' % 256 = exactSum ft len p % 256 := by
  rw [checksum_eq_sub_ofNat ft len p, eq_marker_sub_iff, checksum_eq_sub_ofNat, BitVec.toNat_sub, BitVec.toNat_ofNat,
    BitVec.toNat_ofNat]
  omega

/-- Bytes are at most 255 each. -/
theorem sum_map_toNat_le (p : List Byte) : (p.map BitVec.toNat).sum ≤ p.length * 255 := by
  have bound := List.sum_le_card_nsmul (p.map BitVec.toNat) 255 fun n hn => by
    obtain ⟨b, -, rfl⟩ := List.mem_map.mp hn
    exact Nat.le_of_lt_succ b.isLt
  simpa using bound

/-- Replacing one byte moves the sum by the difference of the two bytes. -/
theorem sum_map_toNat_set (p : List Byte) (k : Nat) (b : Byte) (h : k < p.length) :
    ((p.set k b).map BitVec.toNat).sum + p[k].toNat = (p.map BitVec.toNat).sum + b.toNat := by
  have new := ((List.set_perm_cons_eraseIdx h b).map BitVec.toNat).sum_eq
  have old := ((List.getElem_cons_eraseIdx_perm h).map BitVec.toNat).sum_eq
  simp only [List.map_cons, List.sum_cons] at new old
  omega

/-- Settles O23: the 32-bit sum is the exact one cut to 32 bits, and at most 255 payload bytes keep it far
below 2^32. -/
theorem checksumIsTheModularSum : Obligations.ChecksumIsTheModularSum := by
  intro ft len p sum
  have exact : exactSum ft len p = sum := rfl
  refine ⟨?_, fun short => ?_⟩
  · rw [checksum_eq_sub_ofNat, exact, BitVec.toNat_sub, BitVec.toNat_ofNat, BitVec.toNat_ofNat]
    omega
  · have bound : sum ≤ 65836 := by
      have := sum_map_toNat_le p
      have := ft.isLt
      have := len.isLt
      omega
    rw [checksumSum_eq_ofNat, exact, BitVec.toNat_ofNat]
    exact ⟨Nat.mod_eq_of_lt (by omega), bound⟩

/-- Settles O24: the bytes before the checksum byte sum to the exact sum of R170. -/
theorem checksumPassesWhenAllBytesSumToMarker : Obligations.ChecksumPassesWhenAllBytesSumToMarker := by
  intro ft rx p _ len before
  have total : (before.map BitVec.toNat).sum = exactSum ft len p := by
    simp [before, exactSum]
    omega
  refine ⟨by rw [checksum_eq_sub_ofNat, total], ?_⟩
  rw [checksum_eq_sub_ofNat, eq_marker_sub_iff]
  simp [total]

/-- Settles O25: one changed byte moves the exact sum by 1 to 255, so not by a multiple of 256. -/
theorem checksumDetectsAnySingleChange : Obligations.ChecksumDetectsAnySingleChange := by
  intro ft len p
  have moved {a b : Byte} (ne : a ≠ b) : a.toNat ≠ b.toNat := mt BitVec.eq_of_toNat_eq ne
  refine ⟨fun ft' ne => ?type, fun len' ne => ?length, fun k b h ne => ?payload⟩
  all_goals
    rw [ne_eq, checksum_eq_iff]
    unfold exactSum
    have := moved ne
  case type => omega
  case length => omega
  case payload =>
    have := sum_map_toNat_set p k b h
    omega

/-! ### PARSE of a whole frame -/

/-- A legal window with the fixed bytes that holds 6 + L bytes takes PARSE to P_CHECK, JUNK_LEN cleared
(42_frame_parser.md R199). -/
theorem pWin_of_wholeFrame {s : State} (legal : s.winBase.toNat + s.winLen.toNat ≤ s.build.bufCap)
    (fits : 6 + (s.window 4).toNat ≤ s.winLen.toNat)
    (start : s.window 0 = 0xFC#8) (const1 : s.window 2 = 0x01#8) (const2 : s.window 3 = 0x30#8) :
    pWin s = pCheck { s with aux := { s.aux with junkLen := 0#16 } } := by
  have header : headerMismatch { s with aux := { s.aux with junkLen := 0#16 } } = false := by
    change headerMismatch s = false
    simp [headerMismatch, start, const1, const2]
  rcases pWin_cases s with ⟨illegal, -⟩ | ⟨-, t, rfl, ⟨short, -⟩ | ⟨-, wrong, -⟩ | ⟨-, -, short, -⟩ | ⟨-, -, e⟩⟩
  · rw [windowLegal_eq_true_iff.mpr legal] at illegal; cases illegal
  · omega
  · rw [header] at wrong; cases wrong
  · exact absurd fits (Nat.not_le.mpr short)
  · exact e

/-- Begun with FRAME_VALID at 0, as PARSE begins it, P_CHECK leaves FRAME_VALID equal to CK_OK (41_checksum.md R175). -/
theorem pCheck_of_invalid {s : State} (invalid : s.status.frameValid = false) :
    pCheck s = finish (if (reported s).cksum.ckOk then .ok else .checksumMismatch)
      ((reported s).setFrameValid (reported s).cksum.ckOk) := by
  rcases pCheck_cases s with ⟨ok, e⟩ | ⟨failed, e⟩
  · rw [e, ok, if_pos rfl]
  · have kept : (reported s).setFrameValid false = reported s := by
      simp only [State.setFrameValid, ← invalid]
      rfl
    rw [e, failed, if_neg Bool.false_ne_true, kept]

/-- Settles O19: PARSE of a whole frame is P_CHECK's report, and CK_OK is the received byte's equality with CHECKSUM. -/
theorem parseReportsAndVerifiesTheFrame : Obligations.ParseReportsAndVerifiesTheFrame := by
  intro s base len rx good legal fits start const1 const2
  have parse : exec .parse s = .next (pCheck { parseStart s with aux := { s.aux with junkLen := 0#16 } }) :=
    congrArg Host.Outcome.next (pWin_of_wholeFrame (s := parseStart s) legal fits start const1 const2)
  have ckOk : (reported { parseStart s with aux := { s.aux with junkLen := 0#16 } }).cksum.ckOk = decide (rx = good) :=
    rfl
  rw [parse, pCheck_of_invalid rfl, ckOk, if_congr decide_eq_true_iff rfl rfl]
  rfl

end Sys2Proof.Machine
end

section
/-! PROOFS. The statements of 42_frame_parser.md. SCAN has three ends and PARSE five, each forced by its condition; a built
frame, or its first bytes, is a window whose bytes are known, so it takes PARSE to one of those ends. One turn of the
resynchronisation loop waits or leaves fewer turns to go. -/

namespace Sys2Proof.Machine

/-! ### SCAN -/

/-- An illegal window passes the end of IBUF (10_state.md R26). -/
theorem windowLegal_eq_false_iff {s : State} :
    s.windowLegal = false ↔ s.build.bufCap < s.winBase.toNat + s.winLen.toNat := by
  simp [State.windowLegal]

/-- A legal window's end is an IBUF index, or the capacity itself, so a 16-bit field holds it (00_scope.md R6; 10_state.md
R26). -/
theorem toNat_ofNat_of_inside {s : State} {a : Nat} (wf : s.build.wf) (inside : a ≤ s.build.bufCap) :
    (BitVec.ofNat 16 a).toNat = a := by
  obtain ⟨-, cap, -⟩ := wf
  rw [BitVec.toNat_ofNat]
  omega

/-- Settles O14: each clause's premises leave one of SCAN's three ends, and two first markers are the same one. -/
theorem scanStopsAtTheFirstMarker : Obligations.ScanStopsAtTheFirstMarker := by
  intro s base n
  refine ⟨fun legal k inside marker first => ?found, fun legal none => ?junk, fun past => ?illegal⟩
  all_goals
    rcases execScan_cases s with ⟨legal', j, inside', marker', first', e⟩ | ⟨legal', none', e⟩ | ⟨illegal, e⟩
  case found.inl =>
    obtain rfl : j = k := by
      rcases Nat.lt_trichotomy j k with lt | eq | gt
      · exact absurd marker' (first j lt)
      · exact eq
      · exact absurd marker (first' k gt)
    exact e
  case found.inr.inl => exact absurd marker (none' k inside)
  case junk.inl => exact absurd marker' (none j inside')
  case junk.inr.inl => exact e
  case illegal.inr.inr => exact e
  case found.inr.inr | junk.inr.inr => exact absurd legal (Nat.not_le.mpr (windowLegal_eq_false_iff.mp illegal))
  case illegal.inl | illegal.inr.inl => exact absurd past (Nat.not_lt.mpr (windowLegal_eq_true_iff.mp legal'))

/-! ### PARSE's ends before P_CHECK -/

theorem headerMismatch_eq_true_iff {s : State} :
    headerMismatch s = true ↔ s.window 0 ≠ 0xFC#8 ∨ s.window 2 ≠ 0x01#8 ∨ s.window 3 ≠ 0x30#8 := by
  simp [headerMismatch, or_assoc]

/-- A REST_OFF that is a 16-bit field's value is that field. -/
theorem setPosition_toNat (s : State) (rest : Half) (needed junk : Nat) :
    s.setPosition rest.toNat needed junk = { s with
      pos := { s.pos with restOff := rest }
      aux := ⟨BitVec.ofNat 16 needed, BitVec.ofNat 16 junk⟩ } := by
  simp [State.setPosition]

/-- The state in which PARSE leaves P_WIN on a legal window (42_frame_parser.md R196). -/
def afterWin (s : State) : State := { parseStart s with aux := { s.aux with junkLen := 0#16 } }

theorem exec_parse_of_legal {s : State} (legal : s.winBase.toNat + s.winLen.toNat ≤ s.build.bufCap) :
    exec .parse s = .next (pAvail (afterWin s)) :=
  congrArg Host.Outcome.next (if_pos (windowLegal_eq_true_iff.mpr legal))

theorem pAvail_of_short {s : State} (short : s.winLen.toNat < 6) :
    pAvail s = finish .incomplete (s.clearFrame.setPosition s.winBase.toNat (neededShort s) 0) := if_pos short

theorem pAvail_of_six_le {s : State} (six : 6 ≤ s.winLen.toNat) : pAvail s = pHdr s := if_neg (Nat.not_lt.mpr six)

theorem pHdr_of_wrong {s : State} (wrong : s.window 0 ≠ 0xFC#8 ∨ s.window 2 ≠ 0x01#8 ∨ s.window 3 ≠ 0x30#8) :
    pHdr s = finish .malformed (s.clearFrame.setPosition (s.winBase.toNat + 1) 0 0) :=
  if_pos (headerMismatch_eq_true_iff.mpr wrong)

theorem pHdr_of_fixed {s : State} (start : s.window 0 = 0xFC#8) (const1 : s.window 2 = 0x01#8)
    (const2 : s.window 3 = 0x30#8) : pHdr s = pLen s :=
  if_neg (by simp [headerMismatch_eq_true_iff, start, const1, const2])

theorem pLen_of_short {s : State} (short : s.winLen.toNat < 6 + (s.window 4).toNat) :
    pLen s = finish .incomplete
      (s.clearFrame.setPosition s.winBase.toNat (6 + (s.window 4).toNat - s.winLen.toNat) 0) := if_pos short

/-- The hint reads the length byte of a short window only when that is one byte short of the minimum (42_frame_parser.md
R200). -/
theorem neededShort_of_short {s : State} (short : s.winLen.toNat < 6) :
    neededShort s = if s.winLen.toNat = 5 then 1 + (s.window 4).toNat else 6 - s.winLen.toNat := by
  rw [neededShort]
  split <;> split <;> omega

/-- Settles O15: PARSE's start leaves the window, so P_WIN finds it illegal. -/
theorem parseOfIllegalWindow : Obligations.ParseOfIllegalWindow := by
  intro s past
  have illegal : ¬(parseStart s).windowLegal = true := by simpa [windowLegal_eq_true_iff] using past
  exact congrArg Host.Outcome.next (if_neg illegal)

/-- Settles O16: P_WIN passes, and P_AVAIL ends the command before any fixed byte is read. -/
theorem parseOfShortWindow : Obligations.ParseOfShortWindow := by
  intro s base n legal short
  rw [exec_parse_of_legal legal, pAvail_of_short (s := afterWin s) short, setPosition_toNat,
    neededShort_of_short (s := afterWin s) short]
  rfl

/-- Settles O17: P_HDR ends the command. -/
theorem parseOfMalformedHeader : Obligations.ParseOfMalformedHeader := by
  intro s base legal six wrong
  rw [exec_parse_of_legal legal, pAvail_of_six_le (s := afterWin s) six, pHdr_of_wrong (s := afterWin s) wrong]
  rfl

/-- Settles O18: P_HDR passes on the fixed bytes, and P_LEN ends the command. -/
theorem parseOfTruncatedFrame : Obligations.ParseOfTruncatedFrame := by
  intro s n len legal six start const1 const2 short
  rw [exec_parse_of_legal legal, pAvail_of_six_le (s := afterWin s) six,
    pHdr_of_fixed (s := afterWin s) start const1 const2, pLen_of_short (s := afterWin s) short, setPosition_toNat]
  rfl

/-! ### Built frames, whole and cut short -/

theorem frameBytes_length (ft : Byte) (p : List Byte) : (frameBytes ft p).length = 6 + p.length := by
  simp [frameBytes]
  omega

/-- The first `n` window bytes are those of the built frame, as far as it goes (30_encoding.md R93). -/
def WindowBuilt (s : State) (ft : Byte) (p : List Byte) (n : Nat) : Prop :=
  ∀ k, k < n → (h : k < (frameBytes ft p).length) → s.window k = (frameBytes ft p)[k]

/-- Bytes that stand written from WIN_BASE up are the window's. -/
theorem window_of_holdsAt {s : State} {bs : List Byte} (h : holdsAt s s.winBase.toNat bs) {k : Nat}
    (hk : k < bs.length) : s.window k = bs[k] :=
  ibufByte_of_read (h k hk)

theorem WindowBuilt.of_append {s : State} {ft : Byte} {p rest : List Byte}
    (h : holdsAt s s.winBase.toNat (frameBytes ft p ++ rest)) : WindowBuilt s ft p (6 + p.length) := by
  intro k _ inside
  rw [window_of_holdsAt h (by rw [List.length_append]; omega), List.getElem_append_left inside]

theorem WindowBuilt.of_take {s : State} {ft : Byte} {p : List Byte} {m : Nat}
    (h : holdsAt s s.winBase.toNat ((frameBytes ft p).take m)) : WindowBuilt s ft p m := by
  intro k below inside
  rw [window_of_holdsAt h (by rw [List.length_take]; omega), List.getElem_take]

section
variable {s : State} {ft : Byte} {p : List Byte} {n : Nat} (h : WindowBuilt s ft p n)
include h

/-- The bytes before the payload: the fixed ones, the type, and the length (30_encoding.md R93, R95). -/
theorem WindowBuilt.header (five : 5 ≤ n) :
    s.window 0 = 0xFC#8 ∧ s.window 1 = ft ∧ s.window 2 = 0x01#8 ∧ s.window 3 = 0x30#8 ∧
      s.window 4 = BitVec.ofNat 8 p.length := by
  have inside {k : Nat} (hk : k < 5) : k < (frameBytes ft p).length := by rw [frameBytes_length]; omega
  exact ⟨h 0 (by omega) (inside (by decide)), h 1 (by omega) (inside (by decide)), h 2 (by omega) (inside (by decide)),
    h 3 (by omega) (inside (by decide)), h 4 (by omega) (inside (by decide))⟩

theorem WindowBuilt.payload (whole : 5 + p.length ≤ n) :
    (List.range p.length).map (fun k => s.window (5 + k)) = p := by
  refine List.ext_getElem (by simp) fun k _ hk => ?_
  rw [List.getElem_map, List.getElem_range, h (5 + k) (by omega) (by rw [frameBytes_length]; omega)]
  simp [frameBytes, Nat.add_comm 5 k, hk]

/-- The byte after the payload is its CHECKSUM. -/
theorem WindowBuilt.received (whole : 6 + p.length ≤ n) :
    s.window (5 + p.length) = checksum ft (BitVec.ofNat 8 p.length) p := by
  rw [h (5 + p.length) (by omega) (by rw [frameBytes_length]; omega)]
  simp [frameBytes, Nat.add_comm 5 p.length]

end

/-- The length byte holds L of every payload that a frame can have. -/
theorem toNat_ofNat_length {p : List Byte} (short : p.length ≤ 255) : (BitVec.ofNat 8 p.length).toNat = p.length := by
  rw [BitVec.toNat_ofNat, Nat.mod_eq_of_lt (by omega)]

/-- Settles O20: the window is the built frame byte for byte, so PARSE reports that frame and its checksum passes. -/
theorem parseAcceptsEveryBuiltFrame : Obligations.ParseAcceptsEveryBuiltFrame := by
  intro s ft p rest wf short size legal holds
  have built := WindowBuilt.of_append holds
  obtain ⟨start, type, const1, const2, length⟩ := built.header (by omega)
  have len := toNat_ofNat_length short
  have parse := parseReportsAndVerifiesTheFrame s legal (by rw [length, len]; omega) start const1 const2
  simp only [type, length, len, built.payload (by omega), built.received (by omega), if_true, decide_true] at parse
  have restOff := toNat_ofNat_of_inside (a := s.winBase.toNat + 6 + p.length) wf (by omega)
  have payloadOff := toNat_ofNat_of_inside (a := s.winBase.toNat + 5) wf (by omega)
  refine ⟨_, parse, rfl, rfl, rfl, rfl, restOff, payloadOff, fun exact => ?_⟩
  subst exact
  exact restOff.trans (by rw [size, List.length_nil]; omega)

/-- Settles O21: up to 5 bytes PARSE stops at P_AVAIL, and with more at P_LEN, since the fixed bytes are the frame's. -/
theorem parseOfAnyTruncationIsIncomplete : Obligations.ParseOfAnyTruncationIsIncomplete := by
  intro s ft p m wf short cut size legal holds
  subst size
  have built := WindowBuilt.of_take holds
  have len := toNat_ofNat_length short
  rcases Nat.lt_or_ge s.winLen.toNat 6 with few | six
  · refine ⟨_, parseOfShortWindow s legal few, rfl, rfl, ?_, rfl⟩
    rw [BitVec.toNat_ofNat]
    split
    · next five =>
      obtain ⟨-, -, -, -, length⟩ := built.header (Nat.le_of_eq five.symm)
      rw [length, len, if_pos (Nat.le_of_eq five.symm)]
      omega
    · rw [if_neg (by omega)]
      omega
  · obtain ⟨start, -, const1, const2, length⟩ := built.header (by omega)
    refine ⟨_, parseOfTruncatedFrame s legal six start const1 const2 (by rwa [length, len]), rfl, rfl, ?_, rfl⟩
    rw [BitVec.toNat_ofNat, length, len, if_pos (by omega)]
    omega

/-! ### Progress of a single command -/

/-- What PARSE's result says about where it leaves the host (42_frame_parser.md R201). -/
inductive ParseProgress (s t : State) : Prop where
  | illegal (window : s.windowLegal = false) (result : t.status.result = .windowError)
  | waits (result : t.status.result = .incomplete)
  | advances (window : s.windowLegal = true) (result : t.status.result ∈ [ResultCode.ok, .checksumMismatch, .malformed])
      (d : Nat) (pos : 0 < d) (inside : d ≤ s.winLen.toNat)
      (rest : t.pos.restOff = BitVec.ofNat 16 (s.winBase.toNat + d))

/-- P_CHECK leaves REST_OFF just after the frame, whether the checksum passes or not. -/
theorem pCheck_position (s : State) :
    (pCheck s).status.result ∈ [ResultCode.ok, .checksumMismatch, .malformed] ∧
      (pCheck s).pos.restOff = BitVec.ofNat 16 (s.winBase.toNat + (6 + (s.window 4).toNat)) := by
  rw [← Nat.add_assoc]
  rcases pCheck_cases s with ⟨-, e⟩ | ⟨-, e⟩
  · rw [e]; exact ⟨by simp, rfl⟩
  · rw [e]; exact ⟨by simp, rfl⟩

/-- Each of PARSE's five ends. -/
theorem pWin_parseStart_progress (s : State) : ParseProgress s (pWin (parseStart s)) := by
  rcases pWin_cases (parseStart s) with
    ⟨window, e⟩ | ⟨window, t, rfl, ⟨-, e⟩ | ⟨six, -, e⟩ | ⟨-, -, -, e⟩ | ⟨-, fits, e⟩⟩
  · rw [e]; exact .illegal window rfl
  · rw [e]; exact .waits rfl
  · rw [e]; exact .advances window (by simp) 1 Nat.one_pos (Nat.le_trans (by decide) six) rfl
  · rw [e]; exact .waits rfl
  · rw [e]
    obtain ⟨result, rest⟩ := pCheck_position (afterWin s)
    exact .advances window result _ (Nat.add_pos_left (by decide) _) fits rest

/-- Settles O58: a build's capacity keeps REST_OFF within its 16 bits. -/
theorem parseAdvancesAndScanFindsMarker : Obligations.ParseAdvancesAndScanFindsMarker := by
  intro s t wf
  refine ⟨fun h result => ?parse, fun h result => ?scan⟩
  case parse =>
    cases h
    cases pWin_parseStart_progress s with
    | illegal _ error => rw [error] at result; simp at result
    | waits incomplete => rw [incomplete] at result; simp at result
    | advances window _ d pos inside rest =>
      have legal := windowLegal_eq_true_iff.mp window
      rw [rest, toNat_ofNat_of_inside wf (by omega)]
      omega
  case scan =>
    rcases execScan_cases s with ⟨window, k, inside, marker, -, e⟩ | ⟨-, -, e⟩ | ⟨-, e⟩
    · have legal := windowLegal_eq_true_iff.mp window
      cases e.symm.trans h
      have rest := toNat_ofNat_of_inside (a := s.winBase.toNat + k) wf (by omega)
      simp only [finish_pos, setPosition_pos, rest]
      exact ⟨by omega, by omega, marker⟩
    · cases e.symm.trans h; cases result
    · cases e.symm.trans h; cases result

/-! ### The resynchronisation loop -/

/-- What the loop keeps from turn to turn: an idle machine, and a position in a buffer that lies in IBUF
(42_frame_parser.md R210). -/
structure LoopReady (l : HostLoop) (s : State) : Prop where
  build   : s.build.wf
  idle    : s.status.busy = false
  ordered : l.pos ≤ l.fin
  inside  : l.fin ≤ s.build.bufCap

/-- A bound on the turns still to come: from SEEK two for every byte left and one that waits, from FRAME one fewer, but at
least the turn that waits. -/
def turnsLeft (l : HostLoop) : Nat :=
  if l.frame then max 1 (2 * (l.fin - l.pos)) else 2 * (l.fin - l.pos) + 1

theorem turnsLeft_pos (l : HostLoop) : 0 < turnsLeft l := by
  unfold turnsLeft
  split <;> omega

/-- A turn waits inside the buffer, or goes on with fewer turns left. -/
inductive TurnEffect (l : HostLoop) : LoopTurn → Prop where
  | waits {l' : HostLoop} {t : State} (lower : l.pos ≤ l'.pos) (upper : l'.pos ≤ l.fin) : TurnEffect l (.waits l' t)
  | goes {l' : HostLoop} {t : State} (ready : LoopReady l' t) (fin : l'.fin = l.fin) (lower : l.pos ≤ l'.pos)
      (fewer : turnsLeft l' < turnsLeft l) : TurnEffect l (.goes l' t)

/-- `WIN base, len` on an idle machine (30_encoding.md R121). -/
theorem setWindow_of_idle {s : State} (idle : s.status.busy = false) (base len : Nat) :
    setWindow base len s = { s with winBase := BitVec.ofNat 16 base, winLen := BitVec.ofNat 16 len } := by
  rw [setWindow, memWrite_winBase idle, memWrite_winLen (by exact idle), BitVec.setWidth_ofNat_of_le (by decide),
    BitVec.setWidth_ofNat_of_le (by decide)]

/-- `RUN op` on an idle machine ends idle, with the command's answer and the same build. -/
theorem runCommand_of_idle {s : State} (idle : s.status.busy = false) (w : Word) :
    exec (decodeOp (commandOp w)) (s.accept (commandOp w)) = .next (runCommand w s) ∧
      (runCommand w s).status.busy = false ∧ (runCommand w s).build = s.build := by
  obtain ⟨t, e, -⟩ := exec_endsFrom (decodeOp (commandOp w)) (s.accept (commandOp w))
  rw [runCommand_eq idle e]
  obtain ⟨done, -, -, -, -, -, build, -⟩ := everyCommandEndsCompleted _ _ _ e
  exact ⟨e, done, build⟩

/-- A turn's command `op` runs on a state `u` whose window is the rest of the buffer, and leaves the machine `t` idle. -/
structure TurnRuns (l : HostLoop) (s : State) (op : BitVec 3) (u t : State) : Prop where
  runs    : exec (decodeOp op) u = .next t
  build   : u.build = s.build
  winBase : u.winBase.toNat = l.pos
  winLen  : u.winLen.toNat = l.fin - l.pos
  idle    : t.status.busy = false
  kept    : t.build = s.build

theorem LoopReady.turnRuns {l : HostLoop} {s : State} (r : LoopReady l s) (w : Word) :
    ∃ u, TurnRuns l s (commandOp w) u (runCommand w (setWindow l.pos (l.fin - l.pos) s)) := by
  obtain ⟨wf, idle, ordered, inside⟩ := r
  rw [setWindow_of_idle idle]
  obtain ⟨runs, idle', kept⟩ := runCommand_of_idle
    (s := { s with winBase := BitVec.ofNat 16 l.pos, winLen := BitVec.ofNat 16 (l.fin - l.pos) }) idle w
  exact ⟨_, runs, rfl, toNat_ofNat_of_inside wf (by omega), toNat_ofNat_of_inside wf (by omega), idle', kept⟩

section
variable {l : HostLoop} {s u t : State} {op : BitVec 3} (r : LoopReady l s) (h : TurnRuns l s op u t)
include r h

theorem TurnRuns.legal : u.windowLegal = true := by
  obtain ⟨-, -, ordered, inside⟩ := r
  rw [windowLegal_eq_true_iff, h.winBase, h.winLen, h.build]
  omega

/-- A REST_OFF inside the window is a place in the buffer. -/
theorem TurnRuns.restOff {d : Nat} (inside : d ≤ u.winLen.toNat)
    (rest : t.pos.restOff = BitVec.ofNat 16 (u.winBase.toNat + d)) :
    t.pos.restOff.toNat = l.pos + d ∧ l.pos + d ≤ l.fin := by
  obtain ⟨wf, -, ordered, within⟩ := r
  rw [h.winLen] at inside
  rw [rest, h.winBase, toNat_ofNat_of_inside wf (by omega)]
  omega

theorem TurnRuns.ready {rest : Nat} (upper : rest ≤ l.fin) (frame : Bool) : LoopReady ⟨rest, l.fin, frame⟩ t where
  build   := h.kept ▸ r.build
  idle    := h.idle
  ordered := upper
  inside  := h.kept ▸ r.inside

end

/-- A frame that passed is decoded before the loop goes on (42_frame_parser.md R211). -/
theorem LoopReady.afterRun {l : HostLoop} {s : State} (r : LoopReady l s) (w : Word) :
    LoopReady l (runCommand w s) := by
  obtain ⟨wf, idle, ordered, inside⟩ := r
  obtain ⟨-, idle', build⟩ := runCommand_of_idle idle w
  exact ⟨build ▸ wf, idle', ordered, build ▸ inside⟩

/-- In SEEK a marker is found in the buffer, or all of it is junk (42_frame_parser.md R211). -/
theorem seek_effect {pos fin : Nat} {s : State} (r : LoopReady ⟨pos, fin, false⟩ s) :
    TurnEffect ⟨pos, fin, false⟩ (loopTurn ⟨pos, fin, false⟩ s) := by
  obtain ⟨u, h⟩ := r.turnRuns 1#32
  simp only [loopTurn, Bool.false_eq_true, if_false]
  generalize runCommand 1#32 _ = t at h ⊢
  have length : u.winLen.toNat = fin - pos := h.winLen
  rcases execScan_cases u with ⟨-, k, inside, -, -, e⟩ | ⟨-, -, e⟩ | ⟨illegal, -⟩
  · obtain rfl := Host.Outcome.next.inj (h.runs.symm.trans e)
    obtain ⟨rest, upper⟩ := h.restOff r (Nat.le_of_lt inside) rfl
    simp only [finish_status, rest]
    refine .goes (h.ready r upper true) rfl (Nat.le_add_right pos k) ?_
    simp only [turnsLeft, if_true, Bool.false_eq_true, if_false]
    omega
  · obtain rfl := Host.Outcome.next.inj (h.runs.symm.trans e)
    obtain ⟨rest, upper⟩ := h.restOff r (Nat.le_refl _) rfl
    simp only [finish_status, rest]
    exact .waits (Nat.le_add_right pos _) upper
  · rw [h.legal r] at illegal
    cases illegal

/-- In FRAME the PARSE moves past at least one byte, or waits for more of them (42_frame_parser.md R211, R212). -/
theorem frame_effect {pos fin : Nat} {s : State} (r : LoopReady ⟨pos, fin, true⟩ s) :
    TurnEffect ⟨pos, fin, true⟩ (loopTurn ⟨pos, fin, true⟩ s) := by
  obtain ⟨u, h⟩ := r.turnRuns 2#32
  simp only [loopTurn, if_true]
  generalize runCommand 2#32 _ = t at h ⊢
  have length : u.winLen.toNat = fin - pos := h.winLen
  have progress : ParseProgress u t := Host.Outcome.next.inj h.runs ▸ pWin_parseStart_progress u
  cases progress with
  | illegal window => rw [h.legal r] at window; cases window
  | waits result =>
    rw [result]
    exact .waits (Nat.le_refl pos) r.ordered
  | advances _ result d moved inside restOff =>
    obtain ⟨rest, upper⟩ := h.restOff r inside restOff
    rw [rest]
    have goes {v : State} (ready : LoopReady ⟨pos + d, fin, false⟩ v) :
        TurnEffect ⟨pos, fin, true⟩ (.goes ⟨pos + d, fin, false⟩ v) := by
      refine .goes ready rfl (Nat.le_add_right pos d) ?_
      simp only [turnsLeft, if_true, Bool.false_eq_true, if_false]
      omega
    have ready := h.ready r upper false
    simp only [List.mem_cons, List.not_mem_nil, or_false] at result
    rcases result with ok | mismatch | malformed
    · rw [ok]; exact goes (ready.afterRun 3#32)
    · rw [mismatch]; exact goes ready
    · rw [malformed]; exact goes ready

theorem loopTurn_effect {l : HostLoop} {s : State} (r : LoopReady l s) : TurnEffect l (loopTurn l s) := by
  obtain ⟨pos, fin, frame⟩ := l
  cases frame with
  | false => exact seek_effect r
  | true => exact frame_effect r

/-- Every turn that goes on lowers the bound, so as much fuel as the bound reaches a wait. -/
theorem loopRun_waits {fuel : Nat} {l : HostLoop} {s : State} (r : LoopReady l s) (enough : turnsLeft l ≤ fuel) :
    ∃ l' s', loopRun fuel l s = .waits l' s' ∧ l.pos ≤ l'.pos ∧ l'.pos ≤ l.fin := by
  induction fuel generalizing l s with
  | zero => exact absurd enough (Nat.not_le.mpr (turnsLeft_pos l))
  | succ fuel ih =>
    have effect := loopTurn_effect r
    rw [loopRun]
    generalize loopTurn l s = turn at effect ⊢
    cases effect with
    | waits lower upper => exact ⟨_, _, rfl, lower, upper⟩
    | goes ready fin lower fewer =>
      obtain ⟨l', t, run, lower', upper⟩ := ih ready (by omega)
      exact ⟨l', t, run, Nat.le_trans lower lower', fin ▸ upper⟩

/-- Settles O59: from either state at most 2N + 1 turns are left. -/
theorem resyncLoopReachesAWait : Obligations.ResyncLoopReachesAWait := by
  intro s l wf idle ordered inside
  refine loopRun_waits ⟨wf, idle, ordered, inside⟩ ?_
  unfold turnsLeft
  split <;> omega

end Sys2Proof.Machine
end

section
/-! PROOFS. The statements of 43_payload_fields.md. Runs of one decoder under two choices of ENUM_TABLES are related record
by record: `setEnum` alone asks for a table, and it keeps the relation; the bit fields and the temperature codec are
arithmetic. -/

namespace Sys2Proof.Machine

/-! ### Another choice of ENUM_TABLES -/

/-- The same machine built with other enumeration tables (00_scope.md R7). -/
def State.withTables (tables : Config.EnumTables) (s : State) : State :=
  { s with build := { s.build with tables := tables } }

/-- The two records differ in UNK bits at most. -/
def SameFields (r r' : Record) : Prop := eraseUnk r' = eraseUnk r

/-- The two states differ in the build and in UNK bits of the decode record at most. -/
def SameButUnk (t u : State) : Prop :=
  { u with record := eraseUnk u.record, build := t.build } = { t with record := eraseUnk t.record }

/-- A table decides an UNK bit and nothing else (43_payload_fields.md R230). -/
theorem eraseUnk_setEnum (t t' : Config.EnumTables) (f : EnumField) (v : Byte) (r : Record) :
    eraseUnk (setEnum t' f v r) = eraseUnk (setEnum t f v (eraseUnk r)) := by
  cases f with
  | power | mode | fan | vane | wideVane | isee => rfl

theorem SameFields.setEnum {r r' : Record} (h : SameFields r r') (t t' : Config.EnumTables) (f : EnumField) (v : Byte) :
    SameFields (setEnum t f v r) (setEnum t' f v r') := by
  unfold SameFields
  rw [eraseUnk_setEnum t t', eraseUnk_setEnum t t f v r, h]

theorem SameFields.setTemp {r r' : Record} (h : SameFields r r') (k : TempKind) (v : Byte) :
    SameFields (setTemp k v r) (setTemp k v r') := congrArg (Machine.setTemp k v) h

/-- Both builds read a gated field alike: absent, present, or beyond the payload. -/
theorem SameFields.gated {put put' : Byte → Record → Record}
    (hput : ∀ b r r', SameFields r r' → SameFields (put b r) (put' b r')) {r r' : Record} (h : SameFields r r')
    (present : Bool) (v : Option Byte) : Option.Rel SameFields (gated present v put r) (gated present v put' r') := by
  cases present with
  | false => exact .some h
  | true =>
    cases v with
    | none => exact .none
    | some b => exact .some (hput b r r' h)

/-- A step that follows from related records keeps them related, and an error stays one. -/
theorem relSameFields_bind {a a' : Option Record} {f f' : Record → Option Record} (h : Option.Rel SameFields a a')
    (hf : ∀ r r', SameFields r r' → Option.Rel SameFields (f r) (f' r')) :
    Option.Rel SameFields (a.bind f) (a'.bind f') := by
  cases h with
  | none => exact .none
  | some h => exact hf _ _ h

/-- The flagged fields of a SetRequest, one after the other in program order (44_payload_decode.md R275). -/
theorem SameFields.setRequestFields {r r' : Record} (h : SameFields r r') (s : State) (tables : Config.EnumTables)
    (f1 f2 : Byte) :
    Option.Rel SameFields (setRequestFields s f1 f2 r) (setRequestFields (s.withTables tables) f1 f2 r') := by
  have enum (f : EnumField) (b : Byte) (r r' : Record) (h : SameFields r r') := h.setEnum s.build.tables tables f b
  refine relSameFields_bind (h.gated (enum .power) ..) fun _ _ h => ?_
  refine relSameFields_bind (h.gated (enum .mode) ..) fun _ _ h => ?_
  refine relSameFields_bind (h.gated (fun b _ _ h => h.setTemp .half b) ..) fun _ _ h => ?_
  refine relSameFields_bind (h.gated (enum .fan) ..) fun _ _ h => ?_
  refine relSameFields_bind (h.gated (enum .vane) ..) fun _ _ h => ?_
  exact h.gated (enum .wideVane) ..

/-- The tables can change a decoder's UNK bits only: not whether it answers, nor any field (43_payload_fields.md R233). -/
def TablesChangeUnkOnly (d : State → Option Record) : Prop :=
  ∀ (s : State) (tables : Config.EnumTables), Option.Rel SameFields (d s) (d (s.withTables tables))

/-- A decoder that records no enumeration asks for no table. -/
theorem TablesChangeUnkOnly.of_eq {d : State → Option Record}
    (h : ∀ (s : State) (tables : Config.EnumTables), d (s.withTables tables) = d s) :
    TablesChangeUnkOnly d := fun s tables => by
  rw [h s tables]
  cases d s with
  | none => exact .none
  | some r => exact .some rfl

/-- The constant and the flag bytes are read before any table is asked for (44_payload_decode.md R275). -/
theorem setRequestDecoder_tablesChangeUnkOnly : TablesChangeUnkOnly setRequestDecoder := fun s tables => by
  have rd (i : Nat) : (s.withTables tables).rd i = s.rd i := rfl
  unfold setRequestDecoder
  rw [rd, rd, rd]
  cases s.rd 0 with
  | none => exact .none
  | some c =>
    dsimp only [Option.bind_some]
    split
    · cases s.rd 1 with
      | none => exact .none
      | some f1 =>
        cases s.rd 2 with
        | none => exact .none
        | some f2 => exact SameFields.setRequestFields rfl s tables f1 f2
    · exact .none

/-- The fields of a Settings payload, in program order (44_payload_decode.md R286). -/
theorem SameFields.settingsRecord {r r' : Record} (h : SameFields r r') (s : State) (tables : Config.EnumTables) :
    SameFields (settingsRecord s r) (settingsRecord (s.withTables tables) r') := by
  have variant : SameFields (setGirVariant .settings r) (setGirVariant .settings r') :=
    congrArg (setGirVariant .settings) h
  unfold Machine.settingsRecord
  dsimp only
  exact .setEnum (.setEnum (.setEnum (.setTemp (.setEnum (.setEnum (.setEnum variant ..) ..) ..) ..) ..) ..) ..

/-- Which variant it is depends on the payload's length alone (44_payload_decode.md R285). -/
theorem settingsDecoder_tablesChangeUnkOnly : TablesChangeUnkOnly settingsDecoder := fun s tables => by
  have len : (s.withTables tables).payloadLen = s.payloadLen := rfl
  have start : girStart (s.withTables tables) = girStart s := rfl
  unfold settingsDecoder
  rw [len, start]
  split
  · exact .some (SameFields.settingsRecord rfl s tables)
  · exact .some rfl

theorem girDecoderOf_tablesChangeUnkOnly (tag : Option Byte) : TablesChangeUnkOnly (girDecoderOf tag) := by
  unfold girDecoderOf
  split
  · exact .of_eq fun _ _ => rfl
  · split
    · exact settingsDecoder_tablesChangeUnkOnly
    · repeat' split
      all_goals exact .of_eq fun _ _ => rfl

theorem decoderOf_tablesChangeUnkOnly (c : FrameClass) (tag : Option Byte) : TablesChangeUnkOnly (decoderOf c tag) := by
  cases c with
  | setRequest => exact setRequestDecoder_tablesChangeUnkOnly
  | getInfoResponse => exact girDecoderOf_tablesChangeUnkOnly tag
  | getInfoRequest | connectRequest | setResponse | connectResponse | unknown => exact .of_eq fun _ _ => rfl

/-- Both builds run the same decoder, chosen by the frame type and the tag (44_payload_decode.md R273). -/
theorem exec_decodeRow_withTables {i : Instr} (row : isDecodeRow i = true) (s : State) (tables : Config.EnumTables) :
    ∃ d, TablesChangeUnkOnly d ∧ exec i s = .next (runDecoder d s) ∧
      exec i (s.withTables tables) = .next (runDecoder d (s.withTables tables)) := by
  cases i with
  | decode => exact ⟨_, decoderOf_tablesChangeUnkOnly _ _, execDecode_eq s, execDecode_eq (s.withTables tables)⟩
  | decodeGetInfoResponse =>
    exact ⟨_, girDecoderOf_tablesChangeUnkOnly _, execDecodeGetInfoResponse_eq s,
      execDecodeGetInfoResponse_eq (s.withTables tables)⟩
  | decodeSetRequest => exact ⟨_, setRequestDecoder_tablesChangeUnkOnly, rfl, rfl⟩
  | girSettings => exact ⟨_, settingsDecoder_tablesChangeUnkOnly, rfl, rfl⟩
  | decodeGetInfoRequest | decodeConnectRequest | decodeSetResponse | decodeConnectResponse | decodeUnknown
  | girRoomTemperature | girTimers | girStatus | girUnknown =>
    refine ⟨_, ?_, rfl, rfl⟩
    exact .of_eq fun _ _ => rfl
  | nop | scan | parse | reserved4 | reserved5 | reserved6 | reserved7 => simp [isDecodeRow] at row

/-- The decoder's answer decides RESULT and the record, and the tables change UNK bits of the record only. -/
theorem runDecoder_withTables {d : State → Option Record} (h : TablesChangeUnkOnly d) (s : State)
    (tables : Config.EnumTables) : SameButUnk (runDecoder d s) (runDecoder d (s.withTables tables)) := by
  have valid : (s.withTables tables).status.frameValid = s.status.frameValid := rfl
  have answers := h s tables
  unfold runDecoder
  rw [valid]
  split
  · generalize d s = a, d (s.withTables tables) = a' at answers ⊢
    cases answers with
    | none => rfl
    | @some r r' same =>
      have erased : eraseUnk r' = eraseUnk r := same
      simp only [SameButUnk, finish, erased]
      rfl
  · rfl

/-- SCAN asks for no table (42_frame_parser.md R190). -/
theorem execScan_withTables (s : State) (tables : Config.EnumTables) :
    ∃ t, execScan s = .next t ∧ execScan (s.withTables tables) = .next (t.withTables tables) := by
  have legal : (s.withTables tables).windowLegal = s.windowLegal := rfl
  have marker : firstMarker (s.withTables tables) = firstMarker s := rfl
  unfold execScan
  rw [legal, marker]
  cases s.windowLegal with
  | false => exact ⟨_, rfl, rfl⟩
  | true =>
    cases firstMarker s with
    | none => exact ⟨_, rfl, rfl⟩
    | some k => exact ⟨_, rfl, rfl⟩

/-- PARSE asks for no table: each of its branches commutes with the choice (42_frame_parser.md R205). -/
theorem pWin_withTables (s : State) (tables : Config.EnumTables) :
    pWin (s.withTables tables) = (pWin s).withTables tables := by
  simp only [pWin, pAvail, pHdr, pLen, pCheck_eq, apply_ite (State.withTables tables)]
  rfl

/-- Settles O41: only `setEnum` asks for a table, and only for its UNK bit. -/
theorem enumTablesChangeOnlyUnkBits : Obligations.EnumTablesChangeOnlyUnkBits := by
  intro i s t tables h
  rcases instr_cases i with only | rfl | rfl | row
  · obtain ⟨code, e⟩ := exec_statusOnly only
    cases (e s).symm.trans h
    exact ⟨_, e _, rfl⟩
  · obtain ⟨t', e, e'⟩ := execScan_withTables s tables
    cases e.symm.trans h
    exact ⟨_, e', rfl⟩
  · cases h
    exact ⟨_, congrArg Host.Outcome.next (pWin_withTables (parseStart s) tables), rfl⟩
  · obtain ⟨d, unkOnly, runs, runs'⟩ := exec_decodeRow_withTables row s tables
    cases runs.symm.trans h
    exact ⟨_, runs', runDecoder_withTables unkOnly s tables⟩

/-! ### Bit fields and enumerations -/

/-- flag(x, k) is bit k of the byte (43_payload_fields.md R234). -/
theorem flag_eq_getLsbD (x : Byte) (k : Nat) : flag x k = x.getLsbD k := by
  rw [flag, BitVec.and_one_eq_setWidth_ofBool_getLsbD, BitVec.getLsbD_ushiftRight, Nat.add_zero]
  cases x.getLsbD k with
  | false | true => rfl

theorem toNat_field3Lo (x : Byte) : (field3Lo x).toNat = x.toNat % 8 := by
  rw [field3Lo, BitVec.toNat_and]
  exact Nat.and_two_pow_sub_one_eq_mod x.toNat 3

theorem toNat_bit3 (x : Byte) : (bit3 x).toNat = x.toNat / 8 % 2 := by
  rw [bit3, BitVec.toNat_and, BitVec.toNat_ushiftRight, Nat.shiftRight_eq_div_pow]
  exact Nat.and_one_is_mod _

/-- UNK is 1 exactly when the byte is not in the table (43_payload_fields.md R230). -/
theorem not_inTable_eq (table : List Byte) (v : Byte) : (!inTable table v) = decide (v ∉ table) := by
  simp [inTable]

/-- Settles O26, by the arithmetic of shift and mask and by UNK's meaning. -/
theorem fieldExtractionAndEnumerations : Obligations.FieldExtractionAndEnumerations := by
  refine ⟨fun x k _ => flag_eq_getLsbD x k, fun x => ⟨toNat_field3Lo x, toNat_bit3 x⟩, fun t v r => ?_⟩
  simp only [setEnum, tableOf, not_inTable_eq, and_self]

/-! ### The temperature codec -/

/-- Whatever its kind, a temperature lies in −2240 to 2650 tenths (43_payload_fields.md R243). -/
theorem tenths_bounds (k : TempKind) (v : Byte) : -2240 ≤ tenths k v ∧ tenths k v ≤ 2650 := by
  have byte : v.toNat < 256 := v.isLt
  cases k with
  | half | setpoint | room => simp only [tenths]; omega

/-- Truncation to 16 bits never changes a temperature (43_payload_fields.md R243). -/
theorem setTemp_tenths_toInt (k : TempKind) (v : Byte) (r : Record) : (setTemp k v r).temp.tenths.toInt = tenths k v := by
  obtain ⟨lower, upper⟩ := tenths_bounds k v
  exact BitVec.toInt_ofInt_eq_self (by decide) (by omega) (by omega)

/-- Settles O27: each kind's formula is in range, so its 16-bit form is exact. -/
theorem temperatureTenthsAreExact : Obligations.TemperatureTenthsAreExact := fun v r =>
  ⟨fun _ => rfl, setTemp_tenths_toInt .half v r, setTemp_tenths_toInt .setpoint v r, setTemp_tenths_toInt .room v r,
    fun k => by rw [setTemp_tenths_toInt]; exact tenths_bounds k v⟩

end Sys2Proof.Machine
end

section
/-! PROOFS. The statements of 44_payload_decode.md. A valid frame's DECODE ends as its decoder answers; what each decoder
answers is said once, as a record written field by field, and the rows' statements read it off. -/

namespace Sys2Proof.Machine

/-! ### A decoder's answer is DECODE's end -/

/-- The bounded read answers the payload's bytes and nothing else (44_payload_decode.md R271). -/
theorem rd_eq_some_iff {s : State} {i : Nat} {b : Byte} : s.rd i = some b ↔ i < s.payloadLen ∧ s.payload i = b := by
  simp [rd_eq]

theorem rd_of_lt {s : State} {i : Nat} (inside : i < s.payloadLen) : s.rd i = some (s.payload i) :=
  rd_eq_some_iff.mpr ⟨inside, rfl⟩

theorem rd_zero_of_empty {s : State} (empty : s.payloadLen = 0) : s.rd 0 = none :=
  if_neg (by omega)

section
variable {d : State → Option Record} {s : State}

theorem runDecoder_of_invalid (invalid : s.status.frameValid = false) : runDecoder d s = finish .noFrame s := by
  simp [runDecoder, invalid]

theorem runDecoder_of_some {r : Record} (valid : s.status.frameValid = true) (e : d s = some r) :
    runDecoder d s = { s with status := completedStatus s .ok, draws := s.draws + 1, record := r } := by
  simp only [runDecoder, valid, e, if_true]
  rfl

theorem runDecoder_of_none (valid : s.status.frameValid = true) (e : d s = none) :
    runDecoder d s =
      { s with status := completedStatus s .payloadDecodeError, draws := s.draws + 1, record := startRecord s } := by
  simp only [runDecoder, valid, e, if_true]
  rfl

end

/-- Settles O28: each row is the run of a decoder, which asks for a valid frame first. -/
theorem decodeWithoutFrameIsNoFrame : Obligations.DecodeWithoutFrameIsNoFrame := by
  intro i s row invalid
  obtain ⟨d, runs⟩ := exec_decodeRow i s row
  rw [runs, runDecoder_of_invalid invalid]
  rfl

/-! ### Decoders of the first bytes -/

/-- Settles O33: both decoders read nothing. -/
theorem opaquePayloadsDecodeToTheirClass : Obligations.OpaquePayloadsDecodeToTheirClass := by
  rintro i s ft (rfl | rfl) valid
  · exact congrArg Host.Outcome.next (runDecoder_of_some valid rfl)
  · exact congrArg Host.Outcome.next (runDecoder_of_some valid rfl)

/-- Settles O31: byte 0 is the only byte that is read. -/
theorem getInfoRequestRecordsItsInfoType : Obligations.GetInfoRequestRecordsItsInfoType := by
  intro s valid
  refine ⟨fun one => ?_, fun empty => ?_⟩
  · have answer : getInfoRequestDecoder s = some (setInfo (s.payload 0) (startRecord s)) :=
      congrArg (Option.map _) (rd_of_lt one)
    exact congrArg Host.Outcome.next (runDecoder_of_some valid answer)
  · have fault : getInfoRequestDecoder s = none := congrArg (Option.map _) (rd_zero_of_empty empty)
    exact congrArg Host.Outcome.next (runDecoder_of_none valid fault)

/-- Settles O34: byte 0 is the only byte that is read. -/
theorem connectResponseKeepsItsByte : Obligations.ConnectResponseKeepsItsByte := by
  intro s valid
  refine ⟨fun one => ?_, fun empty => ?_⟩
  · refine congrArg Host.Outcome.next (runDecoder_of_some (d := connectResponseDecoder) valid ?_)
    rw [connectResponseDecoder, rd_of_lt one]
    rfl
  · have fault : connectResponseDecoder s = none := congrArg (Option.map _) (rd_zero_of_empty empty)
    exact congrArg Host.Outcome.next (runDecoder_of_none valid fault)

/-- The ConnectRequest decoder answers exactly on the magic bytes (44_payload_decode.md R280). -/
theorem connectRequestDecoder_eq_some_iff {s : State} {r : Record} :
    connectRequestDecoder s = some r ↔
      (2 ≤ s.payloadLen ∧ s.payload 0 = 0xCA#8 ∧ s.payload 1 = 0x01#8) ∧ r = startRecord s := by
  constructor
  · intro e
    refine ⟨?_, connectRequestDecoder_eq_startRecord e⟩
    simp only [connectRequestDecoder, Option.bind_eq_some_iff, Option.ite_none_right_eq_some, rd_eq_some_iff] at e
    obtain ⟨_, ⟨-, rfl⟩, first, _, ⟨two, rfl⟩, second, -⟩ := e
    exact ⟨two, first, second⟩
  · rintro ⟨⟨two, first, second⟩, rfl⟩
    simp [connectRequestDecoder, rd_of_lt (s := s) (i := 0) (by omega), rd_of_lt (s := s) (i := 1) two, first, second]

/-- Settles O32. -/
theorem connectRequestChecksItsMagic : Obligations.ConnectRequestChecksItsMagic := by
  intro s valid
  refine ⟨fun two first second => ?_, fun wrong => ?_⟩
  · have answer := connectRequestDecoder_eq_some_iff.mpr ⟨⟨two, first, second⟩, rfl⟩
    exact congrArg Host.Outcome.next (runDecoder_of_some valid answer)
  · have fault : connectRequestDecoder s = none := by
      refine Option.eq_none_iff_forall_ne_some.mpr fun r e => ?_
      obtain ⟨⟨two, first, second⟩, -⟩ := connectRequestDecoder_eq_some_iff.mp e
      rcases wrong with short | differs | differs
      · omega
      · exact differs first
      · exact differs second
    exact congrArg Host.Outcome.next (runDecoder_of_none valid fault)

/-! ### Writing one field of the record -/

/-- An enumeration field and its valid bit, set to given values. -/
def putEnum (f : EnumField) (valid : Bool) (e : EnumValue) (r : Record) : Record :=
  match f with
  | .power => { r with fieldValid := { r.fieldValid with power := valid }, power := e }
  | .mode => { r with fieldValid := { r.fieldValid with mode := valid }, mode := e }
  | .fan => { r with fieldValid := { r.fieldValid with fan := valid }, fan := e }
  | .vane => { r with fieldValid := { r.fieldValid with vane := valid }, vane := e }
  | .wideVane => { r with fieldValid := { r.fieldValid with wideVane := valid }, wideVane := e }
  | .isee => { r with fieldValid := { r.fieldValid with isee := valid }, isee := e }

/-- TEMP and its valid bit, set to given values. -/
def putTemp (valid : Bool) (x : Temp) (r : Record) : Record :=
  { r with fieldValid := { r.fieldValid with temp := valid }, temp := x }

/-- TEMP of a byte read as one kind (43_payload_fields.md R243). -/
def tempOf (k : TempKind) (v : Byte) : Temp := ⟨v, k, BitVec.ofInt 16 (tenths k v)⟩

theorem setEnum_eq_putEnum (t : Config.EnumTables) (f : EnumField) (v : Byte) (r : Record) :
    setEnum t f v r = putEnum f true (enumIf true (tableOf t f) v) r := by
  cases f with
  | power | mode | fan | vane | wideVane | isee => simp only [setEnum, putEnum, enumIf, not_inTable_eq, if_true]

/-- The setpoint and the room temperature fall back on the mapped byte when the half-degree byte is 0
(43_payload_fields.md R244). -/
theorem setTemp_resolve (k : TempKind) (mapped half : Byte) (r : Record) :
    setTemp (resolve k mapped half).1 (resolve k mapped half).2 r =
      putTemp true (if half = 0#8 then tempOf k mapped else tempOf .half half) r := by
  unfold resolve
  split <;> rfl

/-! ### SetRequest -/

section
variable {s : State} {present : Bool} {i : Nat} {r r' : Record}

/-- A flagged field lies in the payload when it could be read (44_payload_decode.md R275). -/
theorem gated_inside {put : Byte → Record → Record} (e : gated present (s.rd i) put r = some r')
    (flagged : present = true) : i < s.payloadLen := by
  rcases gated_cases present (s.rd i) put r with ⟨absent, -⟩ | ⟨b, -, read, -⟩ | ⟨-, -, fault⟩
  · simp [flagged] at absent
  · exact (rd_eq_some_iff.mp read).1
  · cases fault.symm.trans e

/-- A gated enumeration, on a record in which the field is absent. -/
theorem gated_setEnum {t : Config.EnumTables} {f : EnumField} (inside : present = true → i < s.payloadLen)
    (absent : putEnum f false .zero r = r) :
    gated present (s.rd i) (setEnum t f) r =
      some (putEnum f present (enumIf present (tableOf t f) (s.payload i)) r) := by
  cases present with
  | false => exact congrArg some absent.symm
  | true => simp only [gated, if_true, rd_of_lt (inside rfl), setEnum_eq_putEnum]

/-- The gated temperature, on a record in which it is absent. -/
theorem gated_setTemp {k : TempKind} (inside : present = true → i < s.payloadLen)
    (absent : putTemp false .zero r = r) :
    gated present (s.rd i) (setTemp k) r =
      some (putTemp present (if present then tempOf k (s.payload i) else .zero) r) := by
  cases present with
  | false => exact congrArg some absent.symm
  | true => simp only [gated, if_true, rd_of_lt (inside rfl)]; rfl

end

/-- The payload has the flag bytes, the constant and every flagged field (44_payload_decode.md R275). -/
structure SetRequestFits (s : State) : Prop where
  flags    : 3 ≤ s.payloadLen
  const    : s.payload 0 = 0x01#8
  power    : (s.payload 1).getLsbD 0 = true → 3 < s.payloadLen
  mode     : (s.payload 1).getLsbD 1 = true → 4 < s.payloadLen
  temp     : (s.payload 1).getLsbD 2 = true → 14 < s.payloadLen
  fan      : (s.payload 1).getLsbD 3 = true → 6 < s.payloadLen
  vane     : (s.payload 1).getLsbD 4 = true → 7 < s.payloadLen
  wideVane : (s.payload 2).getLsbD 0 = true → 13 < s.payloadLen

/-- The record of a SetRequest: SETFLAGS and every flagged field, in program order (44_payload_decode.md R275). -/
def setRequestRecord (s : State) : Record :=
  let p := s.payload
  let f1 := p 1
  let f2 := p 2
  let t := s.build.tables
  let r := setFlagBytes f1 f2 (startRecord s)
  let r := putEnum .power (f1.getLsbD 0) (enumIf (f1.getLsbD 0) t.power (p 3)) r
  let r := putEnum .mode (f1.getLsbD 1) (enumIf (f1.getLsbD 1) t.mode (p 4)) r
  let r := putTemp (f1.getLsbD 2) (if f1.getLsbD 2 then tempOf .half (p 14) else .zero) r
  let r := putEnum .fan (f1.getLsbD 3) (enumIf (f1.getLsbD 3) t.fan (p 6)) r
  let r := putEnum .vane (f1.getLsbD 4) (enumIf (f1.getLsbD 4) t.vane (p 7)) r
  putEnum .wideVane (f2.getLsbD 0) (enumIf (f2.getLsbD 0) t.wideVane (p 13)) r

/-- The chain of gated fields, with each flag as the bit it is (43_payload_fields.md R236). -/
theorem setRequestFields_eq (s : State) (f1 f2 : Byte) (r : Record) :
    setRequestFields s f1 f2 r =
      (gated (f1.getLsbD 0) (s.rd 3) (setEnum s.build.tables .power) r).bind fun r =>
      (gated (f1.getLsbD 1) (s.rd 4) (setEnum s.build.tables .mode) r).bind fun r =>
      (gated (f1.getLsbD 2) (s.rd 14) (setTemp .half) r).bind fun r =>
      (gated (f1.getLsbD 3) (s.rd 6) (setEnum s.build.tables .fan) r).bind fun r =>
      (gated (f1.getLsbD 4) (s.rd 7) (setEnum s.build.tables .vane) r).bind fun r =>
      gated (f2.getLsbD 0) (s.rd 13) (setEnum s.build.tables .wideVane) r := by
  simp only [setRequestFields, powerPresent, modePresent, tempPresent, fanPresent, vanePresent, wideVanePresent,
    flag_eq_getLsbD]

theorem setRequestDecoder_of_fits {s : State} (h : SetRequestFits s) :
    setRequestDecoder s = some (setRequestRecord s) := by
  have three := h.flags
  unfold setRequestDecoder
  rw [rd_of_lt (i := 0) (by omega), rd_of_lt (i := 1) (by omega), rd_of_lt (i := 2) (by omega)]
  simp only [Option.bind_some, h.const, if_true]
  rw [setRequestFields_eq, gated_setEnum h.power rfl, Option.bind_some, gated_setEnum h.mode rfl, Option.bind_some,
    gated_setTemp h.temp rfl, Option.bind_some, gated_setEnum h.fan rfl, Option.bind_some,
    gated_setEnum h.vane rfl, Option.bind_some, gated_setEnum h.wideVane rfl]
  rfl

/-- The decoder answers on nothing else: each read that succeeded gives its bound. -/
theorem setRequestDecoder_fits {s : State} {r : Record} (e : setRequestDecoder s = some r) : SetRequestFits s := by
  simp only [setRequestDecoder, Option.bind_eq_some_iff, Option.ite_none_right_eq_some, rd_eq_some_iff,
    setRequestFields_eq] at e
  obtain ⟨_, ⟨-, rfl⟩, const, _, ⟨-, rfl⟩, _, ⟨flags, rfl⟩, r1, e1, r2, e2, r3, e3, r4, e4, r5, e5, e6⟩ := e
  exact
    { flags, const, power := gated_inside e1, mode := gated_inside e2, temp := gated_inside e3, fan := gated_inside e4
      vane := gated_inside e5, wideVane := gated_inside e6 }

/-- Settles O30: the decoder answers exactly on the payloads that fit. -/
theorem setRequestDecodesItsFlaggedFields : Obligations.SetRequestDecodesItsFlaggedFields := by
  intro s valid
  refine ⟨fun flags const present => ?_, fun bad => ?_⟩
  · simp only [not_or, not_and, Nat.not_le] at present
    obtain ⟨power, mode, temp, fan, vane, wideVane⟩ := present
    have fits : SetRequestFits s := { flags, const, power, mode, temp, fan, vane, wideVane }
    exact congrArg Host.Outcome.next (runDecoder_of_some valid (setRequestDecoder_of_fits fits))
  · have fault : setRequestDecoder s = none := by
      refine Option.eq_none_iff_forall_ne_some.mpr fun r e => ?_
      have fits := setRequestDecoder_fits e
      rcases bad with short | wrong | ⟨flagged, past⟩ | ⟨flagged, past⟩ | ⟨flagged, past⟩ | ⟨flagged, past⟩ |
        ⟨flagged, past⟩ | ⟨flagged, past⟩
      · exact absurd fits.flags (Nat.not_le.mpr short)
      · exact wrong fits.const
      · exact past.not_gt (fits.power flagged)
      · exact past.not_gt (fits.mode flagged)
      · exact past.not_gt (fits.temp flagged)
      · exact past.not_gt (fits.fan flagged)
      · exact past.not_gt (fits.vane flagged)
      · exact past.not_gt (fits.wideVane flagged)
    exact congrArg Host.Outcome.next (runDecoder_of_none valid fault)

/-! ### GetInfoResponse's variants -/

theorem girTag_of_pos {s : State} (one : 1 ≤ s.payloadLen) : girTag s = some (s.payload 0) := rd_of_lt one

/-- With a tag, a GetInfoResponse records it before its variant is matched (44_payload_decode.md R285). -/
theorem girStart_of_pos {s : State} (one : 1 ≤ s.payloadLen) :
    girStart s = setInfo (s.payload 0) (setGirVariant .unknown (startRecord s)) := by
  simp only [girStart, girTag_of_pos one]

theorem girStart_of_empty {s : State} (empty : s.payloadLen = 0) :
    girStart s = setGirVariant .unknown (startRecord s) := by
  simp only [girStart, girTag, rd_zero_of_empty empty]

/-- Settles O39: each of these decoders answers the record every GetInfoResponse starts from. -/
theorem otherTagsAndShortPayloadsAreUnknown : Obligations.OtherTagsAndShortPayloadsAreUnknown := by
  intro i s tag valid one unmatched
  have runs : ∃ d, exec i s = .next (runDecoder d s) ∧ d s = some (girStart s) := by
    rcases unmatched with rfl | rfl | ⟨rfl, short⟩ | ⟨rfl, short⟩ | ⟨rfl, short⟩
    · exact ⟨timersDecoder, rfl, rfl⟩
    · exact ⟨girUnknownDecoder, rfl, rfl⟩
    · exact ⟨settingsDecoder, rfl, congrArg some (if_neg (Nat.not_le.mpr short))⟩
    · exact ⟨roomTemperatureDecoder, rfl, congrArg some (if_neg (Nat.not_le.mpr short))⟩
    · exact ⟨statusDecoder, rfl, congrArg some (if_neg (Nat.not_le.mpr short))⟩
  obtain ⟨d, runs, answer⟩ := runs
  rw [runs, runDecoder_of_some valid answer, girStart_of_pos one]
  rfl

/-- Settles O38. -/
theorem statusVariantRecordsItsBytes : Obligations.StatusVariantRecordsItsBytes := by
  intro s valid five
  have answer : statusDecoder s = some (statusRecord s (girStart s)) := congrArg some (if_pos five)
  rw [girStart_of_pos (by omega)] at answer
  exact congrArg Host.Outcome.next (runDecoder_of_some valid answer)

/-- Settles O37: the temperature is `resolve`d from bytes 3 and 6. -/
theorem roomTemperatureVariantRecordsItsField : Obligations.RoomTemperatureVariantRecordsItsField := by
  intro s valid seven
  have answer : roomTemperatureDecoder s = some (roomTemperatureRecord s (girStart s)) := congrArg some (if_pos seven)
  simp only [roomTemperatureRecord, setTemp_resolve, girStart_of_pos (s := s) (by omega)] at answer
  exact congrArg Host.Outcome.next (runDecoder_of_some valid answer)

/-- Settles O36: each enumeration from its index, and the setpoint `resolve`d from bytes 5 and 11. -/
theorem settingsVariantRecordsItsFields : Obligations.SettingsVariantRecordsItsFields := by
  intro s valid twelve
  have answer : settingsDecoder s = some (settingsRecord s (girStart s)) := congrArg some (if_pos twelve)
  simp only [settingsRecord, setTemp_resolve, setEnum_eq_putEnum, girStart_of_pos (s := s) (by omega)] at answer
  exact congrArg Host.Outcome.next (runDecoder_of_some valid answer)

/-! ### GetInfoResponse is decided by its tag -/

/-- PCLASS, INFO_RAW, INFO_CLASS and INFO_V are the same in both records. -/
structure SameInfo (r r' : Record) : Prop where
  pclass    : r'.payClass.pclass = r.payClass.pclass
  infoRaw   : r'.payClass.infoRaw = r.payClass.infoRaw
  infoClass : r'.payClass.infoClass = r.payClass.infoClass
  info      : r'.fieldValid.info = r.fieldValid.info

theorem SameInfo.refl (r : Record) : SameInfo r r := ⟨rfl, rfl, rfl, rfl⟩

/-- A payload too short for its variant keeps what was recorded of the tag (44_payload_decode.md R290). -/
theorem SameInfo.ite {c : Prop} [Decidable c] {r r' : Record} (h : SameInfo r r') :
    SameInfo r (if c then r' else r) := by
  split
  · exact h
  · exact .refl r

/-- Whatever the tag, GetInfoResponse answers, and a variant adds its fields to what was recorded of the tag
(44_payload_decode.md R285, R291). -/
theorem girDecoderOf_answers (tag : Option Byte) (s : State) :
    ∃ r, girDecoderOf tag s = some r ∧ SameInfo (girStart s) r := by
  unfold girDecoderOf
  split
  · exact ⟨_, rfl, .refl _⟩
  · repeat' split
    · exact ⟨_, rfl, .ite ⟨rfl, rfl, rfl, rfl⟩⟩
    · exact ⟨_, rfl, .ite ⟨rfl, rfl, rfl, rfl⟩⟩
    · exact ⟨_, rfl, .refl _⟩
    · exact ⟨_, rfl, .ite ⟨rfl, rfl, rfl, rfl⟩⟩
    · exact ⟨_, rfl, .refl _⟩

/-- The row of a tag runs the decoder of that tag (44_payload_decode.md R285). -/
theorem exec_decodeTag (b : Byte) (s : State) :
    exec (decodeTag b) s = .next (runDecoder (girDecoderOf (some b)) s) := by
  unfold decodeTag girDecoderOf
  dsimp only
  repeat' split
  all_goals rfl

/-- Settles O35: the tag, when there is one, chooses the same decoder as its row. -/
theorem getInfoResponseRunsTheRowOfItsTag : Obligations.GetInfoResponseRunsTheRowOfItsTag := by
  intro s valid
  have runs : exec .decodeGetInfoResponse s = .next (runDecoder (girDecoderOf (girTag s)) s) :=
    execDecodeGetInfoResponse_eq s
  refine ⟨fun empty => ?_, fun one => ?_⟩
  · have untagged : girTag s = none := rd_zero_of_empty empty
    have answer : girDecoderOf none s = some (girStart s) := rfl
    rw [runs, untagged, runDecoder_of_some valid answer, girStart_of_empty empty]
    rfl
  · obtain ⟨r, answer, same⟩ := girDecoderOf_answers (some (s.payload 0)) s
    rw [girStart_of_pos one] at same
    rw [girTag_of_pos one] at runs
    refine ⟨_, runs, exec_decodeTag _ s, ?_⟩
    rw [runDecoder_of_some valid answer]
    exact ⟨rfl, same.infoRaw, same.infoClass, same.info⟩

/-! ### DECODE runs the row of FT_CLASS -/

/-- A class's row runs the decoder of the class (44_payload_decode.md R272). -/
theorem exec_rowOfClass (c : FrameClass) (ft : Byte) (s : State) :
    exec (rowOfClass c ft) s = .next (runDecoder (decoderOf c (girTag s)) s) := by
  cases c with
  | getInfoResponse => exact execDecodeGetInfoResponse_eq s
  | setRequest | getInfoRequest | connectRequest | setResponse | connectResponse | unknown => rfl

theorem startRecord_pclass (s : State) : (startRecord s).payClass.pclass = s.frameInfo.ftClass := rfl

theorem girStart_pclass (s : State) : (girStart s).payClass.pclass = s.frameInfo.ftClass := by
  unfold girStart
  cases girTag s with
  | none | some t => rfl

/-- Every answer records PCLASS = FT_CLASS (44_payload_decode.md R270). -/
theorem decoderOf_pclass {c : FrameClass} {tag : Option Byte} {s : State} {r : Record}
    (e : decoderOf c tag s = some r) :
    r.payClass.pclass = s.frameInfo.ftClass := by
  cases c with
  | setRequest =>
    cases (setRequestDecoder_of_fits (setRequestDecoder_fits e)).symm.trans e
    rfl
  | getInfoRequest =>
    obtain ⟨t, -, rfl⟩ := Option.map_eq_some_iff.mp e
    rfl
  | connectRequest => exact connectRequestDecoder_eq_startRecord e ▸ startRecord_pclass s
  | setResponse => cases e; rfl
  | getInfoResponse =>
    obtain ⟨r', answer, same⟩ := girDecoderOf_answers tag s
    cases answer.symm.trans e
    exact same.pclass.trans (girStart_pclass s)
  | connectResponse =>
    obtain ⟨b, -, rfl⟩ := Option.map_eq_some_iff.mp e
    rfl
  | unknown => cases e; rfl

/-- Three classes have a decoder that raises no DecodeFault (44_payload_decode.md R282, R284, R291). -/
theorem decoderOf_ne_none {c : FrameClass} (total : c ∈ [FrameClass.setResponse, .getInfoResponse, .unknown])
    (tag : Option Byte) (s : State) : decoderOf c tag s ≠ none := by
  simp only [List.mem_cons, List.not_mem_nil, or_false] at total
  rcases total with rfl | rfl | rfl
  · exact nofun
  · obtain ⟨r, answer, -⟩ := girDecoderOf_answers tag s
    exact Option.ne_none_iff_exists'.mpr ⟨r, answer⟩
  · exact nofun

/-- Settles O29: DECODE and the row run one decoder, whose answer decides the rest. -/
theorem decodeRunsTheRowOfItsClass : Obligations.DecodeRunsTheRowOfItsClass := by
  intro s valid
  refine ⟨_, execDecode_eq s, exec_rowOfClass _ _ s, ?_⟩
  cases answer : decoderOf s.frameInfo.ftClass (girTag s) s with
  | none =>
    rw [runDecoder_of_none valid answer]
    exact ⟨rfl, .inr rfl, rfl, fun _ => rfl, fun total => absurd answer (decoderOf_ne_none total _ s)⟩
  | some r =>
    rw [runDecoder_of_some valid answer]
    exact ⟨rfl, .inl rfl, decoderOf_pclass answer, nofun, fun _ => rfl⟩

/-! ### DECODE is idempotent -/

/-- A decoder run writes STATUS and the decode record only (44_payload_decode.md R270). -/
theorem runDecoder_frame (d : State → Option Record) (s : State) :
    runDecoder d s = { s with
      status := completedStatus s (runDecoder d s).status.result
      draws := s.draws + 1
      record := (runDecoder d s).record } := by
  rcases runDecoder_cases d s with ⟨-, e⟩ | ⟨-, ⟨r, -, e⟩ | ⟨-, e⟩⟩
  all_goals rw [e]; rfl

theorem runDecoder_sameFrame (d : State → Option Record) (s : State) : SameFrame s (runDecoder d s) := by
  rw [runDecoder_frame d s]
  exact ⟨rfl, rfl, rfl, rfl, rfl⟩

/-- A payload that has been written reads the same at every draw (20_memory.md R81). -/
theorem samePayload_of_writtenAt {s t : State} (written : writtenAt s s.pos.payloadOff.toNat s.payloadLen)
    (frame : SameFrame s t) : SamePayload s t where
  frameInfo := frame.frameInfo
  build     := frame.build
  bytes     := fun k inside => by
    obtain ⟨b, read⟩ := Option.isSome_iff_exists.mp (written k inside)
    have read' : Memory.read t.ibuf (t.pos.payloadOff.toNat + k) = some b := by rw [frame.ibuf, frame.payloadOff, read]
    exact (ibufByte_of_read read').trans (ibufByte_of_read read).symm

/-- A decoder that answers as before, run a second time, leaves STATUS and the record as they are. -/
theorem runDecoder_again {d : State → Option Record} {s : State} (answer : d (runDecoder d s) = d s)
    (start : startRecord (runDecoder d s) = startRecord s) :
    (runDecoder d (runDecoder d s)).record = (runDecoder d s).record ∧
      (runDecoder d (runDecoder d s)).status = (runDecoder d s).status := by
  have status (s : State) := congrArg State.status (runDecoder_frame d s)
  have kept : (runDecoder d s).status.frameValid = s.status.frameValid := by rw [status]; rfl
  obtain ⟨result, -, record⟩ := runDecoder_sameAnswer answer start kept
  refine ⟨?_, ?_⟩
  · cases valid : s.status.frameValid with
    | false => rw [runDecoder_of_invalid (kept.trans valid)]; rfl
    | true => exact record valid
  · rw [status (runDecoder d s), result, completedStatus, status s]; rfl

/-- Settles O40: the first DECODE leaves the frame and the payload, so the second runs the same decoder on the same
bytes. -/
theorem decodeIsIdempotent : Obligations.DecodeIsIdempotent := by
  intro s t written h
  obtain ⟨d, reads, runs⟩ := exec_decodeRow_readsPayloadOnly (i := .decode) rfl s
  cases (runs s (.refl s)).symm.trans h
  have same := samePayload_of_writtenAt written (runDecoder_sameFrame d s)
  exact ⟨_, runs _ same, runDecoder_again (reads s _ same) same.startRecord⟩

end Sys2Proof.Machine
end

section
/-! PROOFS. The statement of 60_exceptions.md. Every step answers a next state, whoever acts in it; so does every run. -/

namespace Sys2Proof.Machine

/-- The engine's turn answers a next state: every completion does, and an idle engine rests (60_exceptions.md R400,
R418). -/
theorem exists_engineTurn_eq_next (s : State) : ∃ t, engineTurn s = .next t := by
  unfold engineTurn
  split
  case isTrue =>
    obtain ⟨t, completes, -⟩ := exec_endsFrom (pendingInstr s) s
    exact ⟨t, completes⟩
  case isFalse => exact ⟨s, rfl⟩

/-- Every event has a defined effect: a host access of any shape is one of its own, and the engine's is its turn
(60_exceptions.md R404, R418). -/
theorem exists_inputStep_eq_next (i : Input) (s : State) : ∃ t, inputStep i s = .next t := by
  cases i with
  | engine => exact exists_engineTurn_eq_next s
  | read | write | reset | wait | expect => exact ⟨_, rfl⟩

theorem exists_step_eq_next (s : State) : ∃ t, step s = .next t := by
  unfold step
  split
  next => exact exists_engineTurn_eq_next s
  next i is _ => exact exists_inputStep_eq_next i { s with inputs := is }

/-- Settles O8, by induction on the number of steps: the first step goes on, and so does the run from where it leads. -/
theorem everyRunGoesOn : Obligations.EveryRunGoesOn := by
  intro k
  induction k with
  | zero => exact fun s => ⟨s, rfl⟩
  | succ k ih =>
    intro s
    obtain ⟨t, first⟩ := exists_step_eq_next s
    obtain ⟨u, rest⟩ := ih t
    exact ⟨u, run_succ first rest⟩

end Sys2Proof.Machine
end

section
/-! PROOFS. The statements of 70_reset_and_hazards.md. Reset clears every register whatever the state; with BUSY or DONE at
1 no other step clears both; and from an idle machine with DONE = 0 a poll of WAIT comes back to where it began. -/

namespace Sys2Proof.Machine

/-! ### Reset -/

/-- Every register is 0 in the state after reset (10_state.md R45). -/
theorem regWord_reset (r : Reg) : regWord State.reset r = 0#32 := by cases r <;> decide

/-- The reset input clears every field that a register word is made of (70_reset_and_hazards.md R440). -/
theorem regWord_applyReset (s : State) (r : Reg) : regWord (applyReset s) r = 0#32 := by
  have cleared : regWord (applyReset s) r = regWord State.reset r := by cases r <;> rfl
  rw [cleared, regWord_reset]

/-- Settles O49. -/
theorem resetClearsEveryRegister : Obligations.ResetClearsEveryRegister := by
  refine ⟨⟨regWord_reset, rfl, rfl⟩, fun s is event => ?_⟩
  obtain ⟨-, -, reset, -⟩ := hostEventsAreSteps s is
  exact ⟨_, reset event, regWord_applyReset _, rfl, rfl, rfl, rfl⟩

/-! ### BUSY = 0 with DONE = 0 -/

theorem engineMoves_eq_true_iff {s : State} :
    engineMoves s = true ↔ s.status.busy = true ∧ (s.inputs = [] ∨ ∃ is, s.inputs = .engine :: is) := by
  unfold engineMoves
  split <;> simp_all

/-- A step in which the engine moves completes the pending command (40_command_interface.md R143). -/
theorem done_of_engineMoves {s t : State} (moves : engineMoves s = true) (h : step s = .next t) :
    t.status.done = true := by
  obtain ⟨busy, empty | ⟨is, turn⟩⟩ := engineMoves_eq_true_iff.mp moves
  · rw [step_of_busy_of_nil busy empty] at h
    obtain ⟨-, done, -⟩ := everyCommandEndsCompleted _ _ _ h
    exact done
  · obtain ⟨u, e, -, done, -⟩ := step_of_engine_completes busy turn
    cases e.symm.trans h
    exact done

/-- Settles O52, by cases on the step's effect: a completion sets DONE, an accepted command sets BUSY, and nothing else but
reset touches the two bits. -/
theorem onlyResetLeavesNoCommand : Obligations.OnlyResetLeavesNoCommand := by
  intro s t h command noReset
  cases step_effect h with
  | parse moves => exact .inr (done_of_engineMoves moves h)
  | other ends => exact .inr (by rw [ends.status]; rfl)
  | keep keeps => rw [keeps.status]; exact command
  | accept => exact .inl rfl
  | store => exact command
  | reset event => exact absurd event (noReset _)

/-! ### A WAIT with nothing pending -/

/-- One poll of such a WAIT: DONE reads 0, the engine's turn finds no command, and the same WAIT comes next (30_encoding.md
R121; 60_exceptions.md R418). -/
theorem wait_polls_again {s : State} {is : List Input} (idle : s.status.busy = false) (notDone : s.status.done = false)
    (event : s.inputs = .wait :: is) :
    ∃ t u, step s = .next t ∧ step t = .next u ∧ u.inputs = .wait :: is ∧ u.status = s.status := by
  obtain ⟨-, -, -, wait, -⟩ := hostEventsAreSteps s is
  have poll := wait event
  rw [notDone] at poll
  obtain ⟨-, -, -, -, -, -, turn⟩ := hostEventsAreSteps { s with
    inputs := .engine :: .wait :: is
    readData := regWord s .status
    draws := s.draws + 1 } (.wait :: is)
  exact ⟨_, _, poll, turn idle rfl, rfl, rfl⟩

/-- Settles O53, by induction on the number of polls. -/
theorem waitWithNothingPendingNeverEnds : Obligations.WaitWithNothingPendingNeverEnds := by
  intro s is k idle notDone event
  induction k generalizing s with
  | zero => exact ⟨s, rfl, event, rfl⟩
  | succ k ih =>
    obtain ⟨t, u, poll, turn, again, status⟩ := wait_polls_again idle notDone event
    obtain ⟨v, rest, waits, kept⟩ := ih u (status ▸ idle) (status ▸ notDone) again
    exact ⟨v, run_succ poll (run_succ turn rest), waits, kept.trans status⟩

end Sys2Proof.Machine
end
